-- ==== Sys2Proof/Word.lean ====
section
/-!
DEFINITION. The word types of the block (`00_scope.md` R10, R11): bytes, byte sequences and the fixed
field widths. All quantities are unsigned.
-/

namespace Sys2Proof

/-- A byte, the unit of every access (R11, `20_memory.md` R46). -/
abbrev Byte := BitVec 8

/-- A byte sequence, index 0 first (R11). -/
abbrev Bytes := List Byte

/-- `u16`: `sequenceId`, `payloadSize`, `SEQ` (R10). -/
abbrev U16 := BitVec 16

/-- `u32`: `tickId`, `TICK`, a CRC, an operand of width `OPW` = 32 (R8, R10). -/
abbrev U32 := BitVec 32

/-- A session slot index as the command word carries it, 8 bits (`30_encoding.md` R71). -/
abbrev Sid := BitVec 8

/-- The header as one 120-bit vector, byte 0 most significant (`30_encoding.md` R60). -/
abbrev HeaderVector := BitVec 120

end Sys2Proof
end

