-- ==== Sys2Proof/Syntax.lean ====
section
/-!
DEFINITION. The syntax: statuses, the operand record, the command as the host presents it, the encoded forms,
and `Instr`, one constructor per row of `spec/opcode_table.json` (14 `CMD16` rows, 7 `HDR15` rows).
-/

namespace Sys2Proof

/-- The status of a response (`60_exceptions.md` R170). Codes 11 to 15 do not exist (U14). -/
inductive Status where
  | ok
  | tooShort
  | badMagic
  | unsupportedVersion
  | payloadSizeMismatch
  | checksumMismatch
  | unknownMessageType
  | stringTooLong
  | invalidEncoding
  | badSession
  | badCommand
  deriving DecidableEq, Repr

/-- The registered message types (`30_encoding.md` R66). -/
inductive MsgType where
  | clientHello
  | clientJoinRequest
  | clientReady
  | clientPing
  | clientInput
  | snapshot
  | levelInit
  deriving DecidableEq, Repr

/-- The operand record that travels beside the command word (`30_encoding.md` R72), less `IBUF`. -/
structure Operands where
  ptype : Byte := 0
  mtype : Byte := 0
  seq : U32 := 0
  tick : U32 := 0
  psize : U32 := 0
  exp : U32 := 0
  deriving DecidableEq, Repr

/-- A command as the host presents it (`00_scope.md` R6): the 16-bit word of format `CMD16`, the operand
record, and the input buffer `IBUF`. -/
structure Command where
  word : BitVec 16
  args : Operands := {}
  ibuf : Bytes := []
  deriving DecidableEq, Repr

/-- The fields of an `HDR15` row that the row does not fix (`30_encoding.md` R60, R67). -/
structure MsgFields where
  ptype : Byte
  seq : U16
  tick : U32
  psize : U16
  deriving DecidableEq, Repr

/-- The instructions: the 14 commands with exactly the operands their rules use (`30_encoding.md` R72, R73),
and the 7 registered messages, each the receipt on slot `sid` of a frame with that header and payload
(R66, R67; log 4). -/
inductive Instr where
  | msgClientHello (sid : Sid) (fields : MsgFields) (payload : Bytes)
  | msgClientJoinRequest (sid : Sid) (fields : MsgFields) (payload : Bytes)
  | msgClientReady (sid : Sid) (fields : MsgFields) (payload : Bytes)
  | msgClientPing (sid : Sid) (fields : MsgFields) (payload : Bytes)
  | msgClientInput (sid : Sid) (fields : MsgFields) (payload : Bytes)
  | msgSnapshot (sid : Sid) (fields : MsgFields) (payload : Bytes)
  | msgLevelInit (sid : Sid) (fields : MsgFields) (payload : Bytes)
  | crcGen (ibuf : Bytes)
  | crcChk (ibuf : Bytes) (exp : U32)
  | hdrEnc (ptype mtype : Byte) (seq tick psize : U32)
  | hdrDec (ibuf : Bytes)
  | frmAsm (ptype mtype : Byte) (seq tick : U32) (ibuf : Bytes)
  | frmParse (ibuf : Bytes)
  | frmPong (seq tick : U32)
  | hsMsg (sid : Sid) (mtype : Byte) (seq tick : U32)
  | hsQry (sid : Sid)
  | hsRst (sid : Sid)
  | hsTouch (sid : Sid)
  | trkNext (sid : Sid)
  | trkRst (sid : Sid)
  | rxDgram (sid : Sid) (ibuf : Bytes)
  deriving DecidableEq, Repr

/-- The two encoded forms of `30_encoding.md`: a command (Part B), or an inbound message as the header vector
and the payload of its frame, bound to a slot (Part A). -/
inductive Encoded where
  | command (c : Command)
  | message (sid : Sid) (header : HeaderVector) (payload : Bytes)
  deriving DecidableEq, Repr

end Sys2Proof
end

