-- ==== Sys2Proof/Machine/Wire.lean ====
section
/-!
DEFINITION. The constants of the wire format and the codes of the command set, each bound to one name
(`00_scope.md` R9; UNVERIFIED literals, log 11), and the message registry (`30_encoding.md` R66).
-/

namespace Sys2Proof.Machine

/-- `MAGIC` as a 32-bit big-endian number (R9). -/
def magicWord : U32 := 0xA35FC81D

/-- `VERSION` (R9). -/
def versionByte : Byte := 0x01

/-- `HDR_LEN` (R9). -/
def hdrLen : Nat := 15

/-- `TRL_LEN` (R9). -/
def trlLen : Nat := 4

/-- `CRC_POLY` (R9). -/
def crcPoly : U32 := 0xEDB88320

/-- `CRC_INIT` (R9). -/
def crcInit : U32 := 0xFFFFFFFF

/-- `CRC_XOROUT` (R9). -/
def crcXorOut : U32 := 0xFFFFFFFF

/-- `PT_C2S`, client→server (R9). No unit of the block writes or checks it: `packetType` is the host's operand and is
returned as found (`30_encoding.md` R64). -/
def ptClientToServer : Byte := 0x01

/-- `PT_S2C`, server→client, the direction of a pong (R9, R68). -/
def ptServerToClient : Byte := 0x02

/-- `SEQ0`, every `SEQ[sid]` after reset (`00_scope.md` R8, `10_state.md` R33). -/
def seqReset : U16 := 0

/-- `TICK0`, every `TICK[sid]` after reset (R8, R33). -/
def tickReset : U32 := 0

/-- The message registry, name to code: `MT_HELLO`, `MT_JOIN`, `MT_READY`, `MT_PING`, `MT_INPUT`, `MT_SNAPSHOT`,
`MT_LEVELINIT`, in this order (R9, R66). Every other definition names a code through this one. -/
def msgCode : MsgType → Byte
  | .clientHello => 0x01
  | .clientJoinRequest => 0x02
  | .clientReady => 0x03
  | .clientPing => 0x04
  | .clientInput => 0x05
  | .snapshot => 0x14
  | .levelInit => 0x30

/-- The message registry, code to name; the other 249 codes are unregistered (R66). -/
def msgOfCode (m : Byte) : Option MsgType :=
  if m = msgCode .clientHello then some .clientHello
  else if m = msgCode .clientJoinRequest then some .clientJoinRequest
  else if m = msgCode .clientReady then some .clientReady
  else if m = msgCode .clientPing then some .clientPing
  else if m = msgCode .clientInput then some .clientInput
  else if m = msgCode .snapshot then some .snapshot
  else if m = msgCode .levelInit then some .levelInit
  else none

/-- The 4-bit status codes (`60_exceptions.md` R170). -/
def statusCode : Status → BitVec 4
  | .ok => 0
  | .tooShort => 1
  | .badMagic => 2
  | .unsupportedVersion => 3
  | .payloadSizeMismatch => 4
  | .checksumMismatch => 5
  | .unknownMessageType => 6
  | .stringTooLong => 7
  | .invalidEncoding => 8
  | .badSession => 9
  | .badCommand => 10

end Sys2Proof.Machine
end

