-- ==== Sys2Proof/Config.lean ====
section
/-!
DEFINITION. The implementation parameters the spec leaves open (`00_scope.md` R8, decisions D6 and D12).
A machine carries its parameters in its state (log 1), so a statement about every state is a statement
about every parameter.
-/

namespace Sys2Proof

/-- `Config` of R6: the OPEN parameters of R8. -/
structure Config where
  /-- `NSESS`, the number of session slots. -/
  nsess : Nat
  /-- `BUF_MAX`, the greatest length of `IBUF` and of `OBUF`. -/
  bufMax : Nat
  deriving DecidableEq, Repr

/-- The ranges R8 gives: 1 ≤ `NSESS` ≤ 256 and `BUF_MAX` ≥ 19. -/
def Config.legal (c : Config) : Bool :=
  decide (1 ≤ c.nsess) && decide (c.nsess ≤ 256) && decide (19 ≤ c.bufMax)

/-- DESIGN CHOICE (log 1): the values the spec recommends for a first model, `NSESS` = 256 and
`BUF_MAX` = 65554 (`92_eei_decisions.md`, summary of the OPEN parameters). -/
def Config.recommended : Config := ⟨256, 65554⟩

end Sys2Proof
end

