-- ==== Sys2Proof/WellFormed.lean ====
section
/-!
DEFINITION. Well-formed instructions under given parameters: what R41 lets the host issue, and what a registered
message that came out of a valid frame satisfies (R61). Field widths are checked by the types.
-/

namespace Sys2Proof

/-- `IBUF` fits `BUF_MAX` (`20_memory.md` R41). -/
def ibufFits (c : Config) (ibuf : Bytes) : Bool := decide (ibuf.length ≤ c.bufMax)

/-- The frame around a payload, header and trailer longer, fits `BUF_MAX` (`30_encoding.md` R62, `20_memory.md` R41). -/
def frameFits (c : Config) (payload : Bytes) : Bool := decide (payload.length + Machine.hdrLen + Machine.trlLen ≤ c.bufMax)

/-- A message's payload has the declared length (the Packet invariant of R61) and its frame fits `BUF_MAX`. -/
def messageWellFormed (c : Config) (f : MsgFields) (payload : Bytes) : Bool :=
  decide (payload.length = f.psize.toNat) && frameFits c payload

/-- What may be issued under the parameters `c`. -/
def Instr.wellFormed (c : Config) : Instr → Bool
  | .msgClientHello _ f p => messageWellFormed c f p
  | .msgClientJoinRequest _ f p => messageWellFormed c f p
  | .msgClientReady _ f p => messageWellFormed c f p
  | .msgClientPing _ f p => messageWellFormed c f p
  | .msgClientInput _ f p => messageWellFormed c f p
  | .msgSnapshot _ f p => messageWellFormed c f p
  | .msgLevelInit _ f p => messageWellFormed c f p
  | .crcGen b => ibufFits c b
  | .crcChk b _ => ibufFits c b
  | .hdrEnc _ _ _ _ _ => true
  | .hdrDec b => ibufFits c b
  | .frmAsm _ _ _ _ p => frameFits c p
  | .frmParse b => ibufFits c b
  | .frmPong _ _ => true
  | .hsMsg _ _ _ _ => true
  | .hsQry _ => true
  | .hsRst _ => true
  | .hsTouch _ => true
  | .trkNext _ => true
  | .trkRst _ => true
  | .rxDgram _ b => ibufFits c b

end Sys2Proof
end

