-- ==== Sys2Proof/Decode.lean ====
section
/-!
DEFINITION. The decoder of `30_encoding.md` (command words of format `CMD16`, R71 to R75; header vectors of format
`HDR15`, R60, R66, R67, R69), total, rejecting with the status that names the reason; the encoder after it; the
host's view of the decoder, `decodeTableWord`.
-/

namespace Sys2Proof

open Machine (magicWord versionByte msgCode msgOfCode)

/-- `op`, bits 15:8 of the command word (R71). -/
def opField (w : BitVec 16) : Byte := w.extractLsb' 8 8

/-- `sid`, bits 7:0 of the command word (R71). -/
def sidField (w : BitVec 16) : Sid := w.extractLsb' 0 8

/-- The command word with these fields (R71). -/
def commandWord (op : Byte) (sid : Sid) : BitVec 16 := op ++ sid

/-- A command's instruction (R73): `op` selects it, and it takes the fields its rule names and ignores the rest (R71,
R72). A reserved `op` is rejected as `BadCommand` (R75). -/
def decodeCommand (c : Command) : Except Status Instr :=
  let op := opField c.word
  let sid := sidField c.word
  if op = 0x10 then .ok (.crcGen c.ibuf)
  else if op = 0x11 then .ok (.crcChk c.ibuf c.args.exp)
  else if op = 0x20 then .ok (.hdrEnc c.args.ptype c.args.mtype c.args.seq c.args.tick c.args.psize)
  else if op = 0x21 then .ok (.hdrDec c.ibuf)
  else if op = 0x40 then .ok (.frmAsm c.args.ptype c.args.mtype c.args.seq c.args.tick c.ibuf)
  else if op = 0x41 then .ok (.frmParse c.ibuf)
  else if op = 0x42 then .ok (.frmPong c.args.seq c.args.tick)
  else if op = 0x50 then .ok (.hsMsg sid c.args.mtype c.args.seq c.args.tick)
  else if op = 0x51 then .ok (.hsQry sid)
  else if op = 0x52 then .ok (.hsRst sid)
  else if op = 0x53 then .ok (.hsTouch sid)
  else if op = 0x60 then .ok (.trkNext sid)
  else if op = 0x61 then .ok (.trkRst sid)
  else if op = 0x70 then .ok (.rxDgram sid c.ibuf)
  else .error .badCommand

/-- `magic`, bits 119:88 of the header vector (R60). -/
def magicField (v : HeaderVector) : U32 := v.extractLsb' 88 32

/-- `version`, bits 87:80 (R60). -/
def versionField (v : HeaderVector) : Byte := v.extractLsb' 80 8

/-- `packetType`, bits 79:72 (R60). -/
def packetTypeField (v : HeaderVector) : Byte := v.extractLsb' 72 8

/-- `messageType`, bits 71:64 (R60). -/
def messageTypeField (v : HeaderVector) : Byte := v.extractLsb' 64 8

/-- `sequenceId`, bits 63:48 (R60). -/
def sequenceIdField (v : HeaderVector) : U16 := v.extractLsb' 48 16

/-- `tickId`, bits 47:16 (R60). -/
def tickIdField (v : HeaderVector) : U32 := v.extractLsb' 16 32

/-- `payloadSize`, bits 15:0 (R60). -/
def payloadSizeField (v : HeaderVector) : U16 := v.extractLsb' 0 16

/-- The fields no `HDR15` row fixes (R67). -/
def messageFields (v : HeaderVector) : MsgFields :=
  { ptype := packetTypeField v, seq := sequenceIdField v, tick := tickIdField v, psize := payloadSizeField v }

/-- The instruction of a registered message (R66, R67). -/
def messageInstr (m : MsgType) (sid : Sid) (f : MsgFields) (payload : Bytes) : Instr :=
  match m with
  | .clientHello => .msgClientHello sid f payload
  | .clientJoinRequest => .msgClientJoinRequest sid f payload
  | .clientReady => .msgClientReady sid f payload
  | .clientPing => .msgClientPing sid f payload
  | .clientInput => .msgClientInput sid f payload
  | .snapshot => .msgSnapshot sid f payload
  | .levelInit => .msgLevelInit sid f payload

/-- An inbound message's instruction (R67, R69): `magic`, `version` and `messageType` select the row, and the payload has
the declared length (R61). The trailer is no part of this form. -/
def decodeMessage (sid : Sid) (v : HeaderVector) (payload : Bytes) : Except Status Instr :=
  if magicField v ≠ magicWord then .error .badMagic
  else if versionField v ≠ versionByte then .error .unsupportedVersion
  else if payload.length < (payloadSizeField v).toNat then .error .tooShort
  else if payload.length ≠ (payloadSizeField v).toNat then .error .payloadSizeMismatch
  else match msgOfCode (messageTypeField v) with
    | none => .error .unknownMessageType
    | some m => .ok (messageInstr m sid (messageFields v) payload)

/-- The decoder, of both encoded forms. -/
def decode : Encoded → Except Status Instr
  | .command c => decodeCommand c
  | .message sid v p => decodeMessage sid v p

/-- The header vector of a message of type `m` (R60, R63, R67). -/
def headerVector (m : MsgType) (f : MsgFields) : HeaderVector :=
  magicWord ++ versionByte ++ f.ptype ++ msgCode m ++ f.seq ++ f.tick ++ f.psize

/-- The encoder. A field the instruction does not use is written as zero (log 5). -/
def encode : Instr → Encoded
  | .msgClientHello sid f p => .message sid (headerVector .clientHello f) p
  | .msgClientJoinRequest sid f p => .message sid (headerVector .clientJoinRequest f) p
  | .msgClientReady sid f p => .message sid (headerVector .clientReady f) p
  | .msgClientPing sid f p => .message sid (headerVector .clientPing f) p
  | .msgClientInput sid f p => .message sid (headerVector .clientInput f) p
  | .msgSnapshot sid f p => .message sid (headerVector .snapshot f) p
  | .msgLevelInit sid f p => .message sid (headerVector .levelInit f) p
  | .crcGen b => .command { word := commandWord 0x10 0, ibuf := b }
  | .crcChk b e => .command { word := commandWord 0x11 0, args := { exp := e }, ibuf := b }
  | .hdrEnc pt mt sq tk ps =>
    .command { word := commandWord 0x20 0, args := { ptype := pt, mtype := mt, seq := sq, tick := tk, psize := ps } }
  | .hdrDec b => .command { word := commandWord 0x21 0, ibuf := b }
  | .frmAsm pt mt sq tk p =>
    .command { word := commandWord 0x40 0, args := { ptype := pt, mtype := mt, seq := sq, tick := tk }, ibuf := p }
  | .frmParse b => .command { word := commandWord 0x41 0, ibuf := b }
  | .frmPong sq tk => .command { word := commandWord 0x42 0, args := { seq := sq, tick := tk } }
  | .hsMsg sid mt sq tk =>
    .command { word := commandWord 0x50 sid, args := { mtype := mt, seq := sq, tick := tk } }
  | .hsQry sid => .command { word := commandWord 0x51 sid }
  | .hsRst sid => .command { word := commandWord 0x52 sid }
  | .hsTouch sid => .command { word := commandWord 0x53 sid }
  | .trkNext sid => .command { word := commandWord 0x60 sid }
  | .trkRst sid => .command { word := commandWord 0x61 sid }
  | .rxDgram sid b => .command { word := commandWord 0x70 sid, ibuf := b }

/-- The 15 bytes of a header vector, byte 0 from bits 119:112 (`00_scope.md` R11, `30_encoding.md` R60). -/
def headerBytes (v : HeaderVector) : Bytes :=
  [v.extractLsb' 112 8, v.extractLsb' 104 8, v.extractLsb' 96 8, v.extractLsb' 88 8, v.extractLsb' 80 8,
   v.extractLsb' 72 8, v.extractLsb' 64 8, v.extractLsb' 56 8, v.extractLsb' 48 8, v.extractLsb' 40 8,
   v.extractLsb' 32 8, v.extractLsb' 24 8, v.extractLsb' 16 8, v.extractLsb' 8 8, v.extractLsb' 0 8]

/-- A table row's bits as an encoded form (log 6): up to 16 bits are a command word with an operand record of zeros and an
empty `IBUF`; more are a header vector, numbered as the table numbers it, on slot 0, its payload zeros of the declared
length. -/
def tableWord (nbits w : Nat) : Encoded :=
  if nbits ≤ 16 then .command { word := BitVec.ofNat 16 w }
  else .message 0 (BitVec.ofNat 120 w) (List.replicate (payloadSizeField (BitVec.ofNat 120 w)).toNat 0)

/-- The instruction the decoder reads from a table row's bits. -/
def decodeTableWord (nbits w : Nat) : Option Instr :=
  match decode (tableWord nbits w) with
  | .ok i => some i
  | .error _ => none

end Sys2Proof
end

