-- ==== Sys2Proof/Machine/State.lean ====
section
/-!
DEFINITION. The machine's state as plain data: the session file and the tracker counters of `10_state.md`, the
parameters, the response port, the host's script; the reasons a step can stop; the state after `RESET`.
-/

namespace Sys2Proof.Machine

/-- The handshake states in the order of their codes 0 to 3 (`10_state.md` R24). -/
inductive HsState where
  | awaitingHello
  | awaitingJoin
  | awaitingReady
  | established
  deriving DecidableEq, Repr

/-- The session record `HS[sid]` (`10_state.md` R23); `remoteAddress` is not held (R26). -/
structure Session where
  state : HsState
  sawHello : Bool
  sawJoin : Bool
  sawReady : Bool
  deriving DecidableEq, Repr

/-- Everything the block holds for one `sid`: `HS[sid]` (R23), `SEQ[sid]` and `TICK[sid]` (R29). -/
structure Slot where
  hs : Session
  seq : U16
  tick : U32
  deriving DecidableEq, Repr

/-- The seven header fields of a response's `hdr` (`30_encoding.md` R74). -/
structure Header where
  magic : U32
  version : Byte
  ptype : Byte
  mtype : Byte
  seq : U16
  tick : U32
  psize : U16
  deriving DecidableEq, Repr

/-- The response's `kind` (R74); `nothing` is the spec's `NONE`. -/
inductive ResponseKind where
  | nothing
  | handshake
  | pong
  | deliver
  deriving DecidableEq, Repr

/-- A response (R74). A field a command does not set is absent, not zero (U13); `obuf` is `OBUF`, empty unless the
command writes it (`20_memory.md` R40). -/
structure Response where
  status : Status
  crc : Option U32 := none
  ok : Option Bool := none
  hdr : Option Header := none
  kind : Option ResponseKind := none
  hsreg : Option (BitVec 5) := none
  est : Option Bool := none
  seq : Option U16 := none
  tick : Option U32 := none
  obuf : Bytes := []
  deriving DecidableEq, Repr

/-- An activity event `activity(sid)` (`45_handshake.md` R146). -/
structure Activity where
  sid : Sid
  deriving DecidableEq, Repr

/-- What the host can do to the block between steps: issue a command (R6) or fire `RESET` (R195). -/
inductive HostInput where
  | command (c : Command)
  | reset
  deriving DecidableEq, Repr

/-- The machine. `slots` is the whole architectural state of the block (`10_state.md`), `NSESS` being its length;
`bufMax` is the parameter `BUF_MAX` (log 1). `resp` and `events` are what the command just executed answered and
emitted (log 3); `script` is what the host issues next, in order (log 2). -/
structure State where
  slots : List Slot
  bufMax : Nat
  resp : Option Response
  events : List Activity
  script : List HostInput
  deriving DecidableEq, Repr

/-- The block has no fault: no error is fatal and no sequence of commands makes it stop accepting commands
(`60_exceptions.md` R179, log 8). Errors are statuses of a response, in a next state. -/
inductive Fault where
  deriving DecidableEq, Repr

/-- Why a step can be refused. -/
inductive Refusal where
  /-- No meaning yet for the instruction of this mnemonic; raised by a refused arm of `exec` only, and no arm is one.
  Safe: the model stops. -/
  | notModelled (mnemonic : String)
  /-- The command's `IBUF` is longer than `BUF_MAX`; raised by `step` and by the meanings that read `IBUF`
  (`20_memory.md` R41: "a model refuses it"). Safe: nothing is claimed of such a command. -/
  | inputTooLong
  /-- The command's rule would make `OBUF` longer than `BUF_MAX`; raised by the meanings that write `OBUF`
  (R41). Safe: nothing is claimed of such a command. -/
  | outputTooLong
  deriving DecidableEq, Repr

/-- A fresh session record (`10_state.md` R33). -/
def Session.fresh : Session := ⟨.awaitingHello, false, false, false⟩

/-- A slot after `RESET` (R33). -/
def Slot.fresh : Slot := ⟨Session.fresh, seqReset, tickReset⟩

/-- The parameters of the machine in state `s` (R6, R8). -/
def State.config (s : State) : Config := ⟨s.slots.length, s.bufMax⟩

/-- The machine with parameters `c` right after `RESET` (`70_reset_and_hazards.md` R195): every slot fresh, no
response, no event; the host has issued nothing yet. -/
def State.resetWith (c : Config) : State :=
  { slots := List.replicate c.nsess Slot.fresh, bufMax := c.bufMax, resp := none, events := [], script := [] }

/-- The machine right after reset, with the recommended parameters (log 1). -/
def State.reset : State := State.resetWith Config.recommended

end Sys2Proof.Machine
end

