-- ==== Sys2Proof/Machine/Flags.lean ====
section
/-!
DEFINITION. The flags `sawHello`, `sawJoin`, `sawReady` and what is computed from them: the handshake step and its
cascading advance (`45_handshake.md` R136 to R140), the packed view `HSREG` (`10_state.md` R25); the code of `kind`.
-/

namespace Sys2Proof.Machine

/-- The 2-bit code of a handshake state (R24). -/
def hsStateCode : HsState → BitVec 2
  | .awaitingHello => 0
  | .awaitingJoin => 1
  | .awaitingReady => 2
  | .established => 3

/-- The 2-bit code of a response's `kind` (`30_encoding.md` R74). -/
def kindCode : ResponseKind → BitVec 2
  | .nothing => 0
  | .handshake => 1
  | .pong => 2
  | .deliver => 3

/-- `pack`: `HSREG` = {`sawReady`, `sawJoin`, `sawHello`, `state[1:0]`} (R25). -/
def packSession (r : Session) : BitVec 5 :=
  BitVec.ofBool r.sawReady ++ BitVec.ofBool r.sawJoin ++ BitVec.ofBool r.sawHello ++ hsStateCode r.state

/-- `est`: whether the record is Established (R136, R143). -/
def isEstablished (r : Session) : Bool := decide (r.state = .established)

/-- The flag a message sets, in any state (R137 to R139). -/
def markSeen (r : Session) (mtype : Byte) : Session :=
  let r := if mtype = msgCode .clientHello then { r with sawHello := true } else r
  let r := if mtype = msgCode .clientJoinRequest then { r with sawJoin := true } else r
  if mtype = msgCode .clientReady then { r with sawReady := true } else r

/-- The first guarded advance of R140. -/
def advanceHello (r : Session) : Session :=
  if r.state = .awaitingHello ∧ r.sawHello = true then { r with state := .awaitingJoin } else r

/-- The second guarded advance of R140. -/
def advanceJoin (r : Session) : Session :=
  if r.state = .awaitingJoin ∧ r.sawHello = true ∧ r.sawJoin = true then { r with state := .awaitingReady } else r

/-- The third guarded advance of R140. -/
def advanceReady (r : Session) : Session :=
  if r.state = .awaitingReady ∧ r.sawHello = true ∧ r.sawJoin = true ∧ r.sawReady = true then
    { r with state := .established }
  else r

/-- `advance`: the three guarded advances tried in order, each on what the one before left (R140). -/
def advance (r : Session) : Session := advanceReady (advanceJoin (advanceHello r))

/-- `hsStep` (R136): the flag, then the advance step. -/
def hsStep (r : Session) (mtype : Byte) : Session := advance (markSeen r mtype)

end Sys2Proof.Machine
end

