-- ==== Sys2Proof/Machine/Ops.lean ====
section
/-!
DEFINITION. The named operations over the session file and the response port: slot access, answering a command,
raising an error (the block's only exception, `60_exceptions.md` R176), the acceptance tests of `20_memory.md` R41.
There is no return from an exception (R178).
-/

namespace Sys2Proof.Machine

/-- The slot `sid` selects; absent exactly when `sid` ≥ `NSESS` (`10_state.md` R23, `30_encoding.md` R76). -/
def State.slot? (s : State) (sid : Sid) : Option Slot := s.slots[sid.toNat]?

/-- Write slot `sid`, and no other (`60_exceptions.md` R186). -/
def State.setSlot (s : State) (sid : Sid) (sl : Slot) : State := { s with slots := s.slots.set sid.toNat sl }

/-- Put a response and its events on the response port, in place of those of the command before (R6, R31). -/
def State.answer (s : State) (r : Response) (ev : List Activity) : State := { s with resp := some r, events := ev }

/-- The response of an error: `status` and no other field (`30_encoding.md` R74, R176). -/
def errorResponse (e : Status) : Response := { status := e }

/-- `raise E`, taking an exception (R176): `status = E`, `OBUF` empty, no architectural state written, no event. -/
def State.raise (s : State) (e : Status) : Host.Outcome State Fault Refusal := .next (s.answer (errorResponse e) [])

/-- `respond(…)` with `ev` emitted (R13). A response whose `OBUF` would be longer than `BUF_MAX` is not given: the
command is not accepted (R41). -/
def State.respond (s : State) (r : Response) (ev : List Activity) : Host.Outcome State Fault Refusal :=
  if s.bufMax < r.obuf.length then .refused .outputTooLong else .next (s.answer r ev)

/-- Go on only if an `IBUF` of `n` bytes is accepted (R41). -/
def State.withInput (s : State) (n : Nat) (k : Host.Outcome State Fault Refusal) :
    Host.Outcome State Fault Refusal :=
  if s.bufMax < n then .refused .inputTooLong else k

/-- Go on with the slot `sid` selects, or raise `BadSession` (`30_encoding.md` R76). -/
def State.withSlot (s : State) (sid : Sid) (k : Slot → Host.Outcome State Fault Refusal) :
    Host.Outcome State Fault Refusal :=
  match s.slot? sid with
  | none => s.raise .badSession
  | some sl => k sl

/-- The `RESET` event (`70_reset_and_hazards.md` R195): every slot fresh; no response, no event. The parameters and
the host's script are not the block's to reset. -/
def State.applyReset (s : State) : State :=
  { s with slots := s.slots.map (fun _ => Slot.fresh), resp := none, events := [] }

end Sys2Proof.Machine
end

