-- ==== Sys2Proof/Machine/Crc.lean ====
section
/-!
DEFINITION. The Checksum Unit (`41_crc32.md`): the function `CRC32` (R90, R91) and the commands `CRC.GEN`, `CRC.CHK`.
-/

namespace Sys2Proof.Machine

/-- One bit step of R91: shift right, and xor the polynomial if the bit shifted out was 1. -/
def crcBit (acc : U32) : U32 := if acc.getLsbD 0 then (acc >>> 1) ^^^ crcPoly else acc >>> 1

/-- `n` bit steps. -/
def crcBits : Nat → U32 → U32
  | 0, acc => acc
  | n + 1, acc => crcBits n (crcBit acc)

/-- `step(acc, b)` of R94, the loop body of R91 for one byte: it enters at the low 8 bits, then eight bit steps. -/
def crcByte (acc : U32) (b : Byte) : U32 := crcBits 8 (acc ^^^ b.setWidth 32)

/-- The accumulator after the bytes `bs` (R94). -/
def crcFold (acc : U32) (bs : Bytes) : U32 := bs.foldl crcByte acc

/-- `CRC32` (R90, R91). -/
def crc32 (bs : Bytes) : U32 := crcFold crcInit bs ^^^ crcXorOut

/-- `CRC.GEN` (R92). -/
def execCrcGen (ibuf : Bytes) (s : State) : Host.Outcome State Fault Refusal :=
  s.withInput ibuf.length (s.respond { status := .ok, crc := some (crc32 ibuf) } [])

/-- `CRC.CHK` (R93): a mismatch is the answer `ok = 0`, not an error. -/
def execCrcChk (ibuf : Bytes) (exp : U32) (s : State) : Host.Outcome State Fault Refusal :=
  s.withInput ibuf.length (s.respond { status := .ok, ok := some (decide (crc32 ibuf = exp)) } [])

end Sys2Proof.Machine
end

