-- ==== Sys2Proof/Machine/Operands.lean ====
section
/-!
DEFINITION. Operand forms: big-endian packing (`00_scope.md` R12), the reduction of the encoder's operands
(`30_encoding.md` R70), and byte access to the two buffers (`20_memory.md` R44, R45).
-/

namespace Sys2Proof.Machine

/-- `be16(v)` (R12). -/
def be16 (v : U16) : Bytes := [v.extractLsb' 8 8, v.extractLsb' 0 8]

/-- `be32(v)` (R12). -/
def be32 (v : U32) : Bytes := [v.extractLsb' 24 8, v.extractLsb' 16 8, v.extractLsb' 8 8, v.extractLsb' 0 8]

/-- `unbe16` of exactly two bytes (R12); other lengths do not occur. -/
def unbe16 : Bytes → U16
  | [a, b] => a ++ b
  | _ => 0

/-- `unbe32` of exactly four bytes (R12); other lengths do not occur. -/
def unbe32 : Bytes → U32
  | [a, b, c, d] => a ++ b ++ c ++ d
  | _ => 0

/-- The reduction of a 32-bit operand to a 16-bit field, `v mod 2^16` (R70). -/
def reduce16 (v : U32) : U16 := v.setWidth 16

/-- A decoded 16-bit field where a 32-bit operand is expected, zero-extended (R13 `zext`, R70). -/
def zext32 (v : U16) : U32 := v.setWidth 32

/-- `MemRead(addr, n)` = `IBUF[addr .. addr+n)` (R44); every rule tests the length first. -/
def memRead (ibuf : Bytes) (addr n : Nat) : Bytes := (ibuf.drop addr).take n

/-- `MemRead(addr, 1)` as a byte (R44); a read past the end is never attempted. -/
def memByte (ibuf : Bytes) (addr : Nat) : Byte := ibuf.getD addr 0

/-- `MemWrite(addr, n, v)` on `OBUF`, `n` the length of `v` (R45). -/
def memWrite (obuf : Bytes) (addr : Nat) (v : Bytes) : Bytes :=
  obuf.take addr ++ v ++ obuf.drop (addr + v.length)

end Sys2Proof.Machine
end

