-- ==== Sys2Proof/Machine/HeaderCodec.lean ====
section
/-!
DEFINITION. The Header Codec (`42_header_codec.md`): `encodeHeader` (R101), `decodeHeader` (R104) and the commands
`HDR.ENC`, `HDR.DEC`.
-/

namespace Sys2Proof.Machine

/-- `MAGIC` in wire order (`00_scope.md` R9, `20_memory.md` R42). -/
def magicBytes : Bytes := be32 magicWord

/-- `encodeHeader` (R101), its multi-byte operands reduced to their field width (`30_encoding.md` R70). -/
def encodeHeader (ptype mtype : Byte) (seq tick psize : U32) : Bytes :=
  magicBytes ++ [versionByte] ++ [ptype] ++ [mtype] ++ be16 (reduce16 seq) ++ be32 tick ++ be16 (reduce16 psize)

/-- The seven fields at their offsets, found in a buffer of at least 15 bytes (R60, R104). -/
def headerFields (b : Bytes) : Header :=
  { magic := unbe32 (memRead b 0 4)
    version := memByte b 4
    ptype := memByte b 5
    mtype := memByte b 6
    seq := unbe16 (memRead b 7 2)
    tick := unbe32 (memRead b 9 4)
    psize := unbe16 (memRead b 13 2) }

/-- `decodeHeader` (R104): length, magic, version, in this order (`60_exceptions.md` R171, R174). -/
def decodeHeader (b : Bytes) : Except Status Header :=
  if b.length < hdrLen then .error .tooShort
  else if memRead b 0 4 ≠ magicBytes then .error .badMagic
  else if memByte b 4 ≠ versionByte then .error .unsupportedVersion
  else .ok (headerFields b)

/-- `HDR.ENC` (R101). -/
def execHdrEnc (ptype mtype : Byte) (seq tick psize : U32) (s : State) : Host.Outcome State Fault Refusal :=
  s.respond { status := .ok, obuf := memWrite [] 0 (encodeHeader ptype mtype seq tick psize) } []

/-- `HDR.DEC` (R104). -/
def execHdrDec (ibuf : Bytes) (s : State) : Host.Outcome State Fault Refusal :=
  s.withInput ibuf.length
    (match decodeHeader ibuf with
    | .error e => s.raise e
    | .ok h => s.respond { status := .ok, hdr := some h } [])

end Sys2Proof.Machine
end

