-- ==== Sys2Proof/Machine/Framer.lean ====
section
/-!
DEFINITION. The packet framer and parser (`44_framer.md`): `assemble` (R120), `parse` (R124), `pong` (R128) and the
commands `FRM.ASM`, `FRM.PARSE`, `FRM.PONG`.
-/

namespace Sys2Proof.Machine

/-- A body followed by its trailer, `be32` of its CRC (`30_encoding.md` R61). -/
def sealBody (body : Bytes) : Bytes := body ++ be32 (crc32 body)

/-- `assemble` (R120): `payloadSize` is the payload's length modulo 2^16 (R70, R121 c). -/
def assemble (ptype mtype : Byte) (seq tick : U32) (payload : Bytes) : Bytes :=
  sealBody (encodeHeader ptype mtype seq tick (BitVec.ofNat 32 payload.length) ++ payload)

/-- `parse` (R124): the header's tests, then the length, then the checksum; the first failing test decides (R123). -/
def parse (b : Bytes) : Except Status (Header × Bytes) :=
  match decodeHeader b with
  | .error e => .error e
  | .ok h =>
    if b.length < hdrLen + h.psize.toNat + trlLen then .error .tooShort
    else if b.length ≠ hdrLen + h.psize.toNat + trlLen then .error .payloadSizeMismatch
    else if crc32 (memRead b 0 (b.length - trlLen)) ≠ unbe32 (memRead b (b.length - trlLen) trlLen) then
      .error .checksumMismatch
    else .ok (h, memRead b hdrLen h.psize.toNat)

/-- `pong` (R128, `30_encoding.md` R68). -/
def pong (seq tick : U32) : Bytes := assemble ptServerToClient (msgCode .clientPing) seq tick []

/-- `FRM.ASM` (R120). -/
def execFrmAsm (ptype mtype : Byte) (seq tick : U32) (ibuf : Bytes) (s : State) : Host.Outcome State Fault Refusal :=
  s.withInput ibuf.length (s.respond { status := .ok, obuf := memWrite [] 0 (assemble ptype mtype seq tick ibuf) } [])

/-- `FRM.PARSE` (R124). -/
def execFrmParse (ibuf : Bytes) (s : State) : Host.Outcome State Fault Refusal :=
  s.withInput ibuf.length
    (match parse ibuf with
    | .error e => s.raise e
    | .ok (h, p) => s.respond { status := .ok, hdr := some h, obuf := memWrite [] 0 p } [])

/-- `FRM.PONG` (R128). -/
def execFrmPong (seq tick : U32) (s : State) : Host.Outcome State Fault Refusal :=
  s.respond { status := .ok, obuf := memWrite [] 0 (pong seq tick) } []

end Sys2Proof.Machine
end

