-- ==== Sys2Proof/Machine/Handshake.lean ====
section
/-!
DEFINITION. The Handshake State Machine (`45_handshake.md`): the commands `HS.MSG`, `HS.QRY`, `HS.RST`, `HS.TOUCH`.
-/

namespace Sys2Proof.Machine

/-- The response of a command that reports a session record (`30_encoding.md` R74): `hsreg` and `est`. -/
def sessionResponse (r : Session) : Response :=
  { status := .ok, hsreg := some (packSession r), est := some (isEstablished r) }

/-- `HS[sid] <- hsStep(HS[sid], mtype)`, answered with the record after the step (R136); `h` is the header to return,
if any (`46_tracker_rx.md` R160). -/
def State.handshakeStep (s : State) (sid : Sid) (sl : Slot) (mtype : Byte) (h : Option Header) :
    Host.Outcome State Fault Refusal :=
  (s.setSlot sid { sl with hs := hsStep sl.hs mtype }).respond
    { sessionResponse (hsStep sl.hs mtype) with kind := some .handshake, hdr := h } []

/-- The pong reply to a ping with sequence `seq` and tick `tick` (R141); the record is unchanged. -/
def State.pongReply (s : State) (sl : Slot) (seq tick : U32) (h : Option Header) :
    Host.Outcome State Fault Refusal :=
  s.respond { sessionResponse sl.hs with kind := some .pong, hdr := h, obuf := memWrite [] 0 (pong seq tick) } []

/-- `HS.MSG` (R136 to R142). -/
def execHsMsg (sid : Sid) (mtype : Byte) (seq tick : U32) (s : State) : Host.Outcome State Fault Refusal :=
  s.withSlot sid fun sl =>
    if mtype = msgCode .clientHello ∨ mtype = msgCode .clientJoinRequest ∨ mtype = msgCode .clientReady then
      s.handshakeStep sid sl mtype none
    else if mtype = msgCode .clientPing then s.pongReply sl seq tick none
    else s.respond { sessionResponse sl.hs with kind := some .nothing } []

/-- `HS.QRY` (R143): its response is the slot's record, so it is pure (`20_memory.md` R47) only in that it writes nothing
and answers by `sid` and record (log 14). -/
def execHsQry (sid : Sid) (s : State) : Host.Outcome State Fault Refusal :=
  s.withSlot sid fun sl => s.respond (sessionResponse sl.hs) []

/-- `HS.RST` (R144): the record only, not the counters. -/
def execHsRst (sid : Sid) (s : State) : Host.Outcome State Fault Refusal :=
  s.withSlot sid fun sl => (s.setSlot sid { sl with hs := Session.fresh }).respond (sessionResponse Session.fresh) []

/-- `HS.TOUCH` (R146): no state, one activity event. -/
def execHsTouch (sid : Sid) (s : State) : Host.Outcome State Fault Refusal :=
  s.withSlot sid fun _ => s.respond { status := .ok } [⟨sid⟩]

end Sys2Proof.Machine
end

