-- ==== Sys2Proof/Machine/Inbound.lean ====
section
/-!
DEFINITION. The inbound path (`46_tracker_rx.md` R160): `RX.DGRAM`, and the registered messages of the opcode table as
the receipt of a valid frame of their type (`30_encoding.md` R66, R67; log 4).
-/

namespace Sys2Proof.Machine

/-- The `DELIVER` arm of R160: the payload goes to `OBUF`, the record is reported and unchanged. -/
def State.deliver (s : State) (sl : Slot) (h : Header) (payload : Bytes) : Host.Outcome State Fault Refusal :=
  s.respond { sessionResponse sl.hs with kind := some .deliver, hdr := some h, obuf := memWrite [] 0 payload } []

/-- `RX.DGRAM` (R160): `BadSession` before any look at `IBUF`, then `parse`, then the dispatch on `messageType`. -/
def execRxDgram (sid : Sid) (ibuf : Bytes) (s : State) : Host.Outcome State Fault Refusal :=
  s.withInput ibuf.length <| s.withSlot sid fun sl =>
    match parse ibuf with
    | .error e => s.raise e
    | .ok (h, p) =>
      if h.mtype = msgCode .clientHello ∨ h.mtype = msgCode .clientJoinRequest ∨ h.mtype = msgCode .clientReady then
        s.handshakeStep sid sl h.mtype (some h)
      else if h.mtype = msgCode .clientPing then s.pongReply sl (zext32 h.seq) h.tick (some h)
      else if h.mtype = msgCode .clientInput ∨ h.mtype = msgCode .snapshot ∨ h.mtype = msgCode .levelInit then
        s.deliver sl h p
      else s.raise .unknownMessageType

/-- The header of a message of type `m` with the fields `f` (`30_encoding.md` R60, R63). -/
def messageHeader (m : MsgType) (f : MsgFields) : Header :=
  { magic := magicWord, version := versionByte, ptype := f.ptype, mtype := msgCode m, seq := f.seq, tick := f.tick,
    psize := f.psize }

/-- What comes before the effect of a message with this payload on slot `sid`: the frame that carries it, 19 bytes
longer (R62), is accepted (R41), and the slot exists (R76). -/
def State.withMessage (s : State) (sid : Sid) (payload : Bytes) (k : Slot → Host.Outcome State Fault Refusal) :
    Host.Outcome State Fault Refusal :=
  s.withInput (payload.length + hdrLen + trlLen) (s.withSlot sid k)

/-- Receipt of `ClientHello` (`45_handshake.md` R137, R140); the payload is ignored (`43_payloads.md` R110). -/
def execMsgClientHello (sid : Sid) (f : MsgFields) (payload : Bytes) (s : State) : Host.Outcome State Fault Refusal :=
  s.withMessage sid payload fun sl =>
    s.handshakeStep sid sl (msgCode .clientHello) (some (messageHeader .clientHello f))

/-- Receipt of `ClientJoinRequest` (R138, R140); the payload is ignored (R110). -/
def execMsgClientJoinRequest (sid : Sid) (f : MsgFields) (payload : Bytes) (s : State) :
    Host.Outcome State Fault Refusal :=
  s.withMessage sid payload fun sl =>
    s.handshakeStep sid sl (msgCode .clientJoinRequest) (some (messageHeader .clientJoinRequest f))

/-- Receipt of `ClientReady` (R139, R140); the payload is ignored (R110). -/
def execMsgClientReady (sid : Sid) (f : MsgFields) (payload : Bytes) (s : State) : Host.Outcome State Fault Refusal :=
  s.withMessage sid payload fun sl =>
    s.handshakeStep sid sl (msgCode .clientReady) (some (messageHeader .clientReady f))

/-- Receipt of `ClientPing` (R141): the pong echoes its sequence and tick; the payload is ignored (R111). -/
def execMsgClientPing (sid : Sid) (f : MsgFields) (payload : Bytes) (s : State) : Host.Outcome State Fault Refusal :=
  s.withMessage sid payload fun sl =>
    s.pongReply sl (zext32 f.seq) f.tick (some (messageHeader .clientPing f))

/-- Receipt of `ClientInput` (`46_tracker_rx.md` R160, `43_payloads.md` R113): handed to the host. -/
def execMsgClientInput (sid : Sid) (f : MsgFields) (payload : Bytes) (s : State) : Host.Outcome State Fault Refusal :=
  s.withMessage sid payload fun sl => s.deliver sl (messageHeader .clientInput f) payload

/-- Receipt of `Snapshot` (R160, R113): handed to the host. -/
def execMsgSnapshot (sid : Sid) (f : MsgFields) (payload : Bytes) (s : State) : Host.Outcome State Fault Refusal :=
  s.withMessage sid payload fun sl => s.deliver sl (messageHeader .snapshot f) payload

/-- Receipt of `LevelInit` (R160, R113): handed to the host. -/
def execMsgLevelInit (sid : Sid) (f : MsgFields) (payload : Bytes) (s : State) : Host.Outcome State Fault Refusal :=
  s.withMessage sid payload fun sl => s.deliver sl (messageHeader .levelInit f) payload

end Sys2Proof.Machine
end

