-- ==== Sys2Proof/Machine/Tracker.lean ====
section
/-!
DEFINITION. The Sequence/Tick Tracker (`46_tracker_rx.md`): the commands `TRK.NEXT` (R155) and `TRK.RST` (R156).
-/

namespace Sys2Proof.Machine

/-- `TRK.NEXT` (R155): the values before the increment are returned; each counter wraps at its width. -/
def execTrkNext (sid : Sid) (s : State) : Host.Outcome State Fault Refusal :=
  s.withSlot sid fun sl =>
    (s.setSlot sid { sl with seq := sl.seq + 1, tick := sl.tick + 1 }).respond
      { status := .ok, seq := some sl.seq, tick := some sl.tick } []

/-- `TRK.RST` (R156): the counters only, not the session record. -/
def execTrkRst (sid : Sid) (s : State) : Host.Outcome State Fault Refusal :=
  s.withSlot sid fun sl =>
    (s.setSlot sid { sl with seq := seqReset, tick := tickReset }).respond { status := .ok } []

end Sys2Proof.Machine
end

