-- ==== Sys2Proof/Machine/Dispatch.lean ====
section
/-!
DEFINITION. One instruction's meaning: `exec` of `00_scope.md` R6, one arm per row of `spec/opcode_table.json`.
-/

namespace Sys2Proof.Machine

def exec (i : Instr) (s : State) : Host.Outcome State Fault Refusal :=
  match i with
  | .msgClientHello sid f p => Sys2Proof.Machine.execMsgClientHello sid f p s
  | .msgClientJoinRequest sid f p => Sys2Proof.Machine.execMsgClientJoinRequest sid f p s
  | .msgClientReady sid f p => Sys2Proof.Machine.execMsgClientReady sid f p s
  | .msgClientPing sid f p => Sys2Proof.Machine.execMsgClientPing sid f p s
  | .msgClientInput sid f p => Sys2Proof.Machine.execMsgClientInput sid f p s
  | .msgSnapshot sid f p => Sys2Proof.Machine.execMsgSnapshot sid f p s
  | .msgLevelInit sid f p => Sys2Proof.Machine.execMsgLevelInit sid f p s
  | .crcGen b => Sys2Proof.Machine.execCrcGen b s
  | .crcChk b e => Sys2Proof.Machine.execCrcChk b e s
  | .hdrEnc pt mt sq tk ps => Sys2Proof.Machine.execHdrEnc pt mt sq tk ps s
  | .hdrDec b => Sys2Proof.Machine.execHdrDec b s
  | .frmAsm pt mt sq tk b => Sys2Proof.Machine.execFrmAsm pt mt sq tk b s
  | .frmParse b => Sys2Proof.Machine.execFrmParse b s
  | .frmPong sq tk => Sys2Proof.Machine.execFrmPong sq tk s
  | .hsMsg sid mt sq tk => Sys2Proof.Machine.execHsMsg sid mt sq tk s
  | .hsQry sid => Sys2Proof.Machine.execHsQry sid s
  | .hsRst sid => Sys2Proof.Machine.execHsRst sid s
  | .hsTouch sid => Sys2Proof.Machine.execHsTouch sid s
  | .trkNext sid => Sys2Proof.Machine.execTrkNext sid s
  | .trkRst sid => Sys2Proof.Machine.execTrkRst sid s
  | .rxDgram sid b => Sys2Proof.Machine.execRxDgram sid b s

end Sys2Proof.Machine
end

