-- ==== Sys2Proof/Machine/Fetch.lean ====
section
/-!
DEFINITION. How the block takes up what the host does: one input of the script, a command or `RESET` (`00_scope.md` R6,
`20_memory.md` R51, `70_reset_and_hazards.md` R195; log 2); and how the host comes to issue a table row (log 6).
-/

namespace Sys2Proof.Machine

/-- The block takes one command (R6): refused if its `IBUF` is longer than `BUF_MAX` (R41, log 7); `BadCommand` if its `op` is
reserved (R75); else the meaning of its instruction. -/
def runCommand (c : Command) (s : State) : Host.Outcome State Fault Refusal :=
  s.withInput c.ibuf.length
    (match decode (.command c) with
    | .error e => s.raise e
    | .ok i => exec i s)

/-- The block takes the next input of the script, which leaves the script (R51). With nothing issued it does nothing:
only commands and `RESET` change its state (R6). -/
def runInput (s : State) : Host.Outcome State Fault Refusal :=
  match s.script with
  | [] => .next s
  | .reset :: rest => .next ({ s with script := rest }).applyReset
  | .command c :: rest => runCommand c { s with script := rest }

/-- The command by which an encoded form reaches the block: itself, or `RX.DGRAM` of the message's frame (R61, R160). -/
def carrier : Encoded → Command
  | .command c => c
  | .message sid v p => { word := commandWord 0x70 sid, ibuf := sealBody (headerBytes v ++ p) }

end Sys2Proof.Machine
end

