-- ==== Sys2Proof/Machine/Step.lean ====
section
/-!
DEFINITION. One step of the machine: the block takes the host's next input, if there is one. `withFetchWord` lets the
host issue a row of the opcode table next.
-/

namespace Sys2Proof.Machine

/-- One step (`00_scope.md` R6, `20_memory.md` R51). -/
def step (s : State) : Host.Outcome State Fault Refusal := runInput s

/-- `s` with the host about to issue the command that carries the table row's bits `w` (log 6). -/
def State.withFetchWord (s : State) (nbits w : Nat) : State :=
  { s with script := .command (carrier (tableWord nbits w)) :: s.script }

end Sys2Proof.Machine
end

