-- ==== Sys2Proof/Safety.lean ====
section
/-!
DEFINITION. The vocabulary of claims: the invariant of a good state, sequences of instructions, which slot an instruction
is about, and the wire format once more in arithmetic on natural numbers, independent of the model's bit vectors.
-/

namespace Sys2Proof.Safety

open Sys2Proof.Machine

/-! ### The session record -/

/-- `state` as the function of the flags that R28 gives (`10_state.md`). -/
def stateOfFlags (hello join ready : Bool) : HsState :=
  if hello = false then .awaitingHello
  else if join = false then .awaitingJoin
  else if ready = false then .awaitingReady
  else .established

/-- The record with these flags that R28 allows. -/
def recordOfFlags (hello join ready : Bool) : Session := ⟨stateOfFlags hello join ready, hello, join, ready⟩

/-- The record is one of the eight reachable ones (R28). -/
def recordConsistent (r : Session) : Bool := decide (r = recordOfFlags r.sawHello r.sawJoin r.sawReady)

/-- The Established record, `HSREG` = `0x1F` (R25). -/
def establishedRecord : Session := ⟨.established, true, true, true⟩

/-! ### The invariant -/

/-- A response the block may give: `OBUF` fits (R41), and an error has no field but `status` (R74, R176). -/
def responseLegal (bufMax : Nat) (r : Response) : Bool :=
  decide (r.obuf.length ≤ bufMax) && (decide (r.status = .ok) || decide (r = errorResponse r.status))

/-- What every step keeps: legal parameters (R8), consistent records (R28), a legal response on the port. -/
def stateInv (s : State) : Bool :=
  s.config.legal && s.slots.all (fun sl => recordConsistent sl.hs) &&
    (match s.resp with
    | none => true
    | some r => responseLegal s.bufMax r)

/-! ### Instructions -/

/-- Instructions one after the other, stopping at the first refusal (`00_scope.md` R5, "program"). -/
def execAll : List Instr → State → Host.Outcome State Fault Refusal
  | [], s => .next s
  | i :: is, s =>
    match exec i s with
    | .next t => execAll is t
    | .fault f => .fault f
    | .refused r => .refused r

/-- The slot a session instruction is about (R76); the others are about none (R71). -/
def instrSlot : Instr → Option Sid
  | .msgClientHello sid _ _ => some sid
  | .msgClientJoinRequest sid _ _ => some sid
  | .msgClientReady sid _ _ => some sid
  | .msgClientPing sid _ _ => some sid
  | .msgClientInput sid _ _ => some sid
  | .msgSnapshot sid _ _ => some sid
  | .msgLevelInit sid _ _ => some sid
  | .crcGen _ => none
  | .crcChk _ _ => none
  | .hdrEnc _ _ _ _ _ => none
  | .hdrDec _ => none
  | .frmAsm _ _ _ _ _ => none
  | .frmParse _ => none
  | .frmPong _ _ => none
  | .hsMsg sid _ _ _ => some sid
  | .hsQry sid => some sid
  | .hsRst sid => some sid
  | .hsTouch sid => some sid
  | .trkNext sid => some sid
  | .trkRst sid => some sid
  | .rxDgram sid _ => some sid

/-- The lengths R41 asks of an instruction, whatever a message's declared size. -/
def instrFits (c : Config) : Instr → Bool
  | .msgClientHello _ _ p => frameFits c p
  | .msgClientJoinRequest _ _ p => frameFits c p
  | .msgClientReady _ _ p => frameFits c p
  | .msgClientPing _ _ p => frameFits c p
  | .msgClientInput _ _ p => frameFits c p
  | .msgSnapshot _ _ p => frameFits c p
  | .msgLevelInit _ _ p => frameFits c p
  | i => i.wellFormed c

/-- The 14 `op` codes of R73. -/
def opCodes : List Byte := [0x10, 0x11, 0x20, 0x21, 0x40, 0x41, 0x42, 0x50, 0x51, 0x52, 0x53, 0x60, 0x61, 0x70]

/-- The `op` codes of the commands that use `sid` (R76). -/
def sessionOpCodes : List Byte := [0x50, 0x51, 0x52, 0x53, 0x60, 0x61, 0x70]

/-- The seven registered codes (R66). -/
def registeredCodes : List Byte := [0x01, 0x02, 0x03, 0x04, 0x05, 0x14, 0x30]

/-! ### The wire format in natural numbers -/

/-- The `n` octets of `v` modulo 256^n, most significant first (`00_scope.md` R12). -/
def octets : Nat → Nat → List Nat
  | 0, _ => []
  | n + 1, v => v / 256 ^ n % 256 :: octets n v

/-- The number `n` bytes from offset `at` stand for, most significant first (R12). -/
def numberAt (b : Bytes) (start : Nat) : Nat → Nat
  | 0 => 0
  | n + 1 => numberAt b start n * 256 + (b.getD (start + n) 0).toNat

/-- The 15 header octets (`30_encoding.md` R60, R70). -/
def headerOctets (ptype mtype seq tick psize : Nat) : List Nat :=
  [0xA3, 0x5F, 0xC8, 0x1D, 1, ptype, mtype] ++ octets 2 seq ++ octets 4 tick ++ octets 2 psize

/-- The octets of a byte sequence. -/
def bytesToNats (b : Bytes) : List Nat := b.map BitVec.toNat

/-- `payloadSize` as the bytes 13 and 14 declare it (R60). -/
def declaredSize (b : Bytes) : Nat := numberAt b 13 2

/-- The header whose fields stand at the offsets of R60. -/
def headerAt (b : Bytes) : Header :=
  { magic := BitVec.ofNat 32 (numberAt b 0 4)
    version := b.getD 4 0
    ptype := b.getD 5 0
    mtype := b.getD 6 0
    seq := BitVec.ofNat 16 (numberAt b 7 2)
    tick := BitVec.ofNat 32 (numberAt b 9 4)
    psize := BitVec.ofNat 16 (declaredSize b) }

/-- Tests 2 to 4 of the priority table (`60_exceptions.md` R171, R174). -/
def headerVerdict (b : Bytes) : Status :=
  if b.length < 15 then .tooShort
  else if numberAt b 0 4 ≠ 0xA35FC81D then .badMagic
  else if numberAt b 4 1 ≠ 1 then .unsupportedVersion
  else .ok

/-- Tests 2 to 7 of the priority table (R171, R172, R174). -/
def frameVerdict (b : Bytes) : Status :=
  if headerVerdict b ≠ .ok then headerVerdict b
  else if b.length < 19 + declaredSize b then .tooShort
  else if b.length > 19 + declaredSize b then .payloadSizeMismatch
  else if numberAt b (b.length - 4) 4 ≠ (crc32 (b.take (b.length - 4))).toNat then .checksumMismatch
  else .ok

/-- The payload of a frame that passes the tests (R61). -/
def payloadAt (b : Bytes) : Bytes := (b.drop 15).take (declaredSize b)

/-- A header with the two constants R63 fixes and these other five fields (R60). -/
def wireHeader (ptype mtype : Byte) (seq : U16) (tick : U32) (psize : U16) : Header :=
  ⟨0xA35FC81D, 1, ptype, mtype, seq, tick, psize⟩

/-- The header vector of a frame, the 120-bit number its first 15 bytes stand for (R60). -/
def headerVectorAt (b : Bytes) : HeaderVector := BitVec.ofNat 120 (numberAt b 0 15)

/-- `b` with bit `k % 8` of byte `k / 8` inverted (`44_framer.md` R126). -/
def flipBit (b : Bytes) (k : Nat) : Bytes := b.modify (k / 8) (fun x => x ^^^ BitVec.twoPow 8 (k % 8))

/-- Whether bit `k % 8` of byte `k / 8` is set. -/
def bitAt (b : Bytes) (k : Nat) : Bool := (b.getD (k / 8) 0).getLsbD (k % 8)

/-- The error R126 gives for inverting bit `k` of the valid frame `b`. -/
def flipVerdict (b : Bytes) (k : Nat) : Status :=
  if k / 8 < 4 then .badMagic
  else if k / 8 = 4 then .unsupportedVersion
  else if k / 8 = 13 ∨ k / 8 = 14 then (if bitAt b k then .payloadSizeMismatch else .tooShort)
  else .checksumMismatch

end Sys2Proof.Safety
end

