-- ==== Sys2Proof/Certificates/Slice0/Obligations.lean ====
section
/-!
DEFINITION. The statements for the provers. Each cites the rule of `spec/` it formalises; a docstring says where a clause is
the spec's own inference (marked "[derived: …]" there), one of its decisions (D<n>), or the model's choice (log <n>).
-/

open Sys2Proof Sys2Proof.Machine Sys2Proof.Safety

/-! ### Commands: what each answers, and its whole next state -/

/-- R92 (`41_crc32.md`): `CRC.GEN` answers the CRC of `IBUF` and writes nothing; no byte sequence is an error; the empty
sequence gives 0; the result depends on every byte and on the order of the bytes; the rule's example. -/
def Obligations.CrcGenAnswersTheChecksum : Prop :=
  (∀ (B : Bytes) (s : State), B.length ≤ s.bufMax →
    exec (.crcGen B) s = .next (s.answer { status := .ok, crc := some (crc32 B) } [])) ∧
  crc32 [] = 0 ∧
  crc32 [0x31, 0x32, 0x33, 0x34, 0x35, 0x36, 0x37, 0x38, 0x39] = 0xCBF43926 ∧
  (∀ (A C : Bytes) (x y : Byte), x ≠ y → crc32 (A ++ [x] ++ C) ≠ crc32 (A ++ [y] ++ C)) ∧
  (∀ (A C : Bytes) (x y : Byte), x ≠ y → crc32 (A ++ [x, y] ++ C) ≠ crc32 (A ++ [y, x] ++ C))

/-- R93 (`41_crc32.md`): `CRC.CHK` answers whether the CRC equals `exp`; a mismatch is `ok = 0` with status `OK`; nothing is
written; the empty sequence with `exp` 0, and the rule's two examples. -/
def Obligations.CrcChkComparesAndNeverFails : Prop :=
  (∀ (B : Bytes) (e : U32) (s : State), B.length ≤ s.bufMax →
    exec (.crcChk B e) s = .next (s.answer { status := .ok, ok := some (decide (crc32 B = e)) } [])) ∧
  crc32 [] = 0 ∧ crc32 [0x61] = 0xE8B7BE43 ∧ crc32 [0x61] ≠ 0xE8B7BE42

/-- R101 (`42_header_codec.md`): `HDR.ENC` writes to `OBUF` the 15 bytes of the header, `seq`, `tick`, `psize` reduced to
their field widths, each field big-endian at its offset; nothing else is written and nothing is an error. The bytes are
given in natural numbers. -/
def Obligations.HdrEncPacksFifteenBytes : Prop :=
  ∀ (pt mt : Byte) (sq tk ps : U32) (s : State), 15 ≤ s.bufMax →
    ∃ H : Bytes,
      exec (.hdrEnc pt mt sq tk ps) s = .next (s.answer { status := .ok, obuf := H } []) ∧
      H.length = 15 ∧
      bytesToNats H = headerOctets pt.toNat mt.toNat (sq.toNat % 2 ^ 16) (tk.toNat % 2 ^ 32) (ps.toNat % 2 ^ 16)

/-- R104 (`42_header_codec.md`): `HDR.DEC` tests length, magic and version in this order; the first failing test is the
status and nothing else is returned; else all seven fields are returned. Nothing is written; `OBUF` is empty. -/
def Obligations.HdrDecTestsThenReturnsSevenFields : Prop :=
  ∀ (B : Bytes) (s : State), B.length ≤ s.bufMax →
    exec (.hdrDec B) s = .next (s.answer
      (if B.length < 15 then errorResponse .tooShort
       else if numberAt B 0 4 ≠ 0xA35FC81D then errorResponse .badMagic
       else if numberAt B 4 1 ≠ 1 then errorResponse .unsupportedVersion
       else { status := .ok, hdr := some (headerAt B) }) [])

/-- R120 (`44_framer.md`): `FRM.ASM` writes to `OBUF` the header with `payloadSize` the payload's length modulo 2^16, the
payload, and the big-endian CRC of both; `len(OBUF)` is n + 19; nothing else is written, the tracker included, and
nothing is an error. -/
def Obligations.FrmAsmComposesTheFrame : Prop :=
  ∀ (pt mt : Byte) (sq tk : U32) (P : Bytes) (s : State), P.length + 19 ≤ s.bufMax →
    ∃ F : Bytes,
      exec (.frmAsm pt mt sq tk P) s = .next (s.answer { status := .ok, obuf := F } []) ∧
      F.length = P.length + 19 ∧
      bytesToNats F =
        headerOctets pt.toNat mt.toNat (sq.toNat % 2 ^ 16) (tk.toNat % 2 ^ 32) (P.length % 2 ^ 16) ++ bytesToNats P ++
          octets 4 (crc32 (F.take (P.length + 15))).toNat

/-- R124 (`44_framer.md`): `FRM.PARSE` makes the six tests in order; the first failing test is the status and nothing else
is returned; else the seven header fields and, in `OBUF`, the payload. Nothing is written. -/
def Obligations.FrmParseValidatesThenSplits : Prop :=
  ∀ (B : Bytes) (s : State), B.length ≤ s.bufMax →
    exec (.frmParse B) s = .next (s.answer
      (if B.length < 15 then errorResponse .tooShort
       else if numberAt B 0 4 ≠ 0xA35FC81D then errorResponse .badMagic
       else if numberAt B 4 1 ≠ 1 then errorResponse .unsupportedVersion
       else if B.length < 15 + declaredSize B + 4 then errorResponse .tooShort
       else if B.length ≠ 15 + declaredSize B + 4 then errorResponse .payloadSizeMismatch
       else if (crc32 (B.take (B.length - 4))).toNat ≠ numberAt B (B.length - 4) 4 then errorResponse .checksumMismatch
       else { status := .ok, hdr := some (headerAt B), obuf := payloadAt B }) [])

/-- R128 (`44_framer.md`, the spec's decision D22): `FRM.PONG` writes to `OBUF` the 19 bytes that `FRM.ASM` composes for
packet type 2, message type 4, the given sequence and tick and no payload; nothing else is written; the rule's example. -/
def Obligations.FrmPongIsTheEmptyServerPing : Prop :=
  (∀ (sq tk : U32) (s : State), 19 ≤ s.bufMax →
    ∃ F : Bytes,
      exec (.frmPong sq tk) s = .next (s.answer { status := .ok, obuf := F } []) ∧
      exec (.frmPong sq tk) s = exec (.frmAsm 0x02 0x04 sq tk []) s ∧
      F.length = 19 ∧
      bytesToNats (F.take 15) = headerOctets 2 4 (sq.toNat % 2 ^ 16) (tk.toNat % 2 ^ 32) 0) ∧
  pong 0x1234 0xDEADBEEF =
    [0xA3, 0x5F, 0xC8, 0x1D, 0x01, 0x02, 0x04, 0x12, 0x34, 0xDE, 0xAD, 0xBE, 0xEF, 0x00, 0x00, 0xA1, 0x95, 0x32, 0xB9]

/-- R136 with R141 and R142 (`45_handshake.md`; D15 for the last arm): `HS.MSG` on an existing slot. A handshake type writes
the stepped record and reports it; a ping writes nothing and puts the pong in `OBUF`; any other type writes nothing. -/
def Obligations.HsMsgTransitions : Prop :=
  ∀ (sid : Sid) (m : Byte) (sq tk : U32) (s : State) (sl : Slot), s.slot? sid = some sl → 19 ≤ s.bufMax →
    exec (.hsMsg sid m sq tk) s =
      if m = 0x01 ∨ m = 0x02 ∨ m = 0x03 then
        .next ((s.setSlot sid { sl with hs := hsStep sl.hs m }).answer
          { status := .ok, kind := some .handshake, hsreg := some (packSession (hsStep sl.hs m)),
            est := some (decide ((hsStep sl.hs m).state = .established)) } [])
      else if m = 0x04 then
        .next (s.answer
          { status := .ok, kind := some .pong, hsreg := some (packSession sl.hs),
            est := some (decide (sl.hs.state = .established)), obuf := pong sq tk } [])
      else
        .next (s.answer
          { status := .ok, kind := some .nothing, hsreg := some (packSession sl.hs),
            est := some (decide (sl.hs.state = .established)) } [])

/-- R143 (`45_handshake.md`): `HS.QRY` reports the record and writes nothing; `BadSession` is its only error. -/
def Obligations.HsQryReportsTheRecord : Prop :=
  ∀ (sid : Sid) (s : State),
    (s.slots.length ≤ sid.toNat → exec (.hsQry sid) s = .next (s.answer (errorResponse .badSession) [])) ∧
    (∀ sl : Slot, s.slot? sid = some sl →
      exec (.hsQry sid) s = .next (s.answer
        { status := .ok, hsreg := some (packSession sl.hs), est := some (decide (sl.hs.state = .established)) } []))

/-- R144 (`45_handshake.md`, the spec's decision D18): `HS.RST` gives the slot's record its reset value, leaves the slot's
counters and every other slot, and reports `hsreg` 0, `est` 0; `BadSession` is its only error. -/
def Obligations.HsRstFreshensTheRecordOnly : Prop :=
  ∀ (sid : Sid) (s : State),
    (s.slots.length ≤ sid.toNat → exec (.hsRst sid) s = .next (s.answer (errorResponse .badSession) [])) ∧
    (∀ sl : Slot, s.slot? sid = some sl →
      exec (.hsRst sid) s = .next ((s.setSlot sid ⟨⟨.awaitingHello, false, false, false⟩, sl.seq, sl.tick⟩).answer
        { status := .ok, hsreg := some 0, est := some false } []))

/-- R146 (`45_handshake.md`, the spec's decision D17): `HS.TOUCH` changes no state and emits one activity event for its
slot; `BadSession` is its only error; no other command emits an event. -/
def Obligations.HsTouchAloneEmitsActivity : Prop :=
  (∀ (sid : Sid) (s : State),
    (s.slots.length ≤ sid.toNat → exec (.hsTouch sid) s = .next (s.answer (errorResponse .badSession) [])) ∧
    (∀ sl : Slot, s.slot? sid = some sl → exec (.hsTouch sid) s = .next (s.answer { status := .ok } [⟨sid⟩]))) ∧
  (∀ (i : Instr) (s t : State), exec i s = .next t → t.events ≠ [] → ∃ sid : Sid, i = .hsTouch sid)

/-- R155 (`46_tracker_rx.md`, the spec's decision D9): `TRK.NEXT` returns the counters and adds one to each, modulo 2^16 and
2^32, the record and every other slot unchanged; overflow is no error; `BadSession` is its only error. -/
def Obligations.TrkNextStampsThenIncrements : Prop :=
  ∀ (sid : Sid) (s : State),
    (s.slots.length ≤ sid.toNat → exec (.trkNext sid) s = .next (s.answer (errorResponse .badSession) [])) ∧
    (∀ sl : Slot, s.slot? sid = some sl →
      ∃ (q : U16) (k : U32),
        exec (.trkNext sid) s = .next ((s.setSlot sid ⟨sl.hs, q, k⟩).answer
          { status := .ok, seq := some sl.seq, tick := some sl.tick } []) ∧
        q.toNat = (sl.seq.toNat + 1) % 2 ^ 16 ∧ k.toNat = (sl.tick.toNat + 1) % 2 ^ 32)

/-- R156 (`46_tracker_rx.md`, the spec's decision D18): `TRK.RST` sets both counters to 0, the record and every other slot
unchanged; `BadSession` is its only error. -/
def Obligations.TrkRstZeroesTheCountersOnly : Prop :=
  ∀ (sid : Sid) (s : State),
    (s.slots.length ≤ sid.toNat → exec (.trkRst sid) s = .next (s.answer (errorResponse .badSession) [])) ∧
    (∀ sl : Slot, s.slot? sid = some sl →
      exec (.trkRst sid) s = .next ((s.setSlot sid ⟨sl.hs, 0, 0⟩).answer { status := .ok } []))

/-- R160 (`46_tracker_rx.md`, the spec's decision D25), priority as R174: `RX.DGRAM` tests the slot, then the frame, then the
message type. Only the handshake arm writes state, and only its slot's record; a ping is answered with its pong, a
registered type without a codec is delivered, an unregistered one is an error. -/
def Obligations.RxDgramValidatesThenDispatches : Prop :=
  ∀ (sid : Sid) (B : Bytes) (s : State), B.length ≤ s.bufMax → 19 ≤ s.bufMax →
    (s.slots.length ≤ sid.toNat → exec (.rxDgram sid B) s = .next (s.answer (errorResponse .badSession) [])) ∧
    (∀ sl : Slot, s.slot? sid = some sl →
      exec (.rxDgram sid B) s =
        if frameVerdict B ≠ .ok then .next (s.answer (errorResponse (frameVerdict B)) [])
        else if (headerAt B).mtype ∈ ([0x01, 0x02, 0x03] : List Byte) then
          .next ((s.setSlot sid { sl with hs := hsStep sl.hs (headerAt B).mtype }).answer
            { status := .ok, hdr := some (headerAt B), kind := some .handshake,
              hsreg := some (packSession (hsStep sl.hs (headerAt B).mtype)),
              est := some (decide ((hsStep sl.hs (headerAt B).mtype).state = .established)) } [])
        else if (headerAt B).mtype = 0x04 then
          .next (s.answer
            { status := .ok, hdr := some (headerAt B), kind := some .pong, hsreg := some (packSession sl.hs),
              est := some (decide (sl.hs.state = .established)),
              obuf := pong (BitVec.ofNat 32 (numberAt B 7 2)) (headerAt B).tick } [])
        else if (headerAt B).mtype ∈ ([0x05, 0x14, 0x30] : List Byte) then
          .next (s.answer
            { status := .ok, hdr := some (headerAt B), kind := some .deliver, hsreg := some (packSession sl.hs),
              est := some (decide (sl.hs.state = .established)), obuf := payloadAt B } [])
        else .next (s.answer (errorResponse .unknownMessageType) []))

/-! ### The registered messages -/

/-- The rows `MSG.ClientHello`, `MSG.ClientJoinRequest`, `MSG.ClientReady` as instructions (the model's reading, log 4, of
R137, R138, R139 and the handshake arm of R160): on an existing slot the record takes the handshake step of the row's
message type; the seven header fields, the stepped record and `est` are reported; nothing else is written. -/
def Obligations.HandshakeMessagesStepTheirSlot : Prop :=
  ∀ (sid : Sid) (f : MsgFields) (P : Bytes) (s : State) (sl : Slot), s.slot? sid = some sl → P.length + 19 ≤ s.bufMax →
    let after : Byte → State := fun m =>
      (s.setSlot sid { sl with hs := hsStep sl.hs m }).answer
        { status := .ok, kind := some .handshake,
          hdr := some (wireHeader f.ptype m f.seq f.tick f.psize),
          hsreg := some (packSession (hsStep sl.hs m)),
          est := some (decide ((hsStep sl.hs m).state = .established)) } []
    exec (.msgClientHello sid f P) s = .next (after 0x01) ∧
    exec (.msgClientJoinRequest sid f P) s = .next (after 0x02) ∧
    exec (.msgClientReady sid f P) s = .next (after 0x03)

/-- The row `MSG.ClientPing` as an instruction (the model's reading, log 4, of R141 and the ping arm of R160): nothing but the
response is written, whatever the handshake state; `OBUF` is the pong that echoes the ping's sequence and tick, its header
and its big-endian CRC trailer given octet by octet (R128). -/
def Obligations.PingMessageIsAnsweredByItsPong : Prop :=
  ∀ (sid : Sid) (f : MsgFields) (P : Bytes) (s : State) (sl : Slot), s.slot? sid = some sl → P.length + 19 ≤ s.bufMax →
    ∃ F : Bytes,
      exec (.msgClientPing sid f P) s = .next (s.answer
        { status := .ok, kind := some .pong,
          hdr := some (wireHeader f.ptype 0x04 f.seq f.tick f.psize),
          hsreg := some (packSession sl.hs), est := some (decide (sl.hs.state = .established)), obuf := F } []) ∧
      F = pong (BitVec.ofNat 32 f.seq.toNat) f.tick ∧ F.length = 19 ∧
      bytesToNats F = headerOctets 2 4 f.seq.toNat f.tick.toNat 0 ++ octets 4 (crc32 (F.take 15)).toNat

/-- The rows `MSG.ClientInput`, `MSG.Snapshot`, `MSG.LevelInit` as instructions (the model's reading, log 4, of R113 and the
`DELIVER` arm of R160): nothing but the response is written; header and raw payload are handed over in any state. -/
def Obligations.OtherMessagesAreDelivered : Prop :=
  ∀ (sid : Sid) (f : MsgFields) (P : Bytes) (s : State) (sl : Slot), s.slot? sid = some sl → P.length + 19 ≤ s.bufMax →
    let after : Byte → State := fun m =>
      s.answer
        { status := .ok, kind := some .deliver,
          hdr := some (wireHeader f.ptype m f.seq f.tick f.psize),
          hsreg := some (packSession sl.hs), est := some (decide (sl.hs.state = .established)), obuf := P } []
    exec (.msgClientInput sid f P) s = .next (after 0x05) ∧
    exec (.msgSnapshot sid f P) s = .next (after 0x14) ∧
    exec (.msgLevelInit sid f P) s = .next (after 0x30)

/-- R160 against its messages (the model's reading, log 4): `RX.DGRAM` on a valid frame, its slot existing or not, is the
instruction its header and payload decode to, and a step at such a command runs that instruction. -/
def Obligations.RxDgramRunsTheMessageOfItsFrame : Prop :=
  ∀ (sid : Sid) (B : Bytes) (s : State) (i : Instr), B.length ≤ s.bufMax → frameVerdict B = .ok →
    decode (.message sid (headerVectorAt B) (payloadAt B)) = .ok i →
    exec (.rxDgram sid B) s = exec i s ∧
    ∀ (a : Operands) (rest : List HostInput), s.script = .command ⟨commandWord 0x70 sid, a, B⟩ :: rest →
      step s = exec i { s with script := rest }

/-! ### Acceptance, errors, totality -/

/-- R76 (`30_encoding.md`, the spec's decision D19) for the seven session commands, and by the model's own reading (log 4) for
the seven message rows, of which R76 does not speak: a session instruction whose `sid` ≥ `NSESS` gives `BadSession`, whatever
else it holds, and nothing is written or emitted; with `NSESS` = 256 that never happens. An instruction R41 does not let the host issue is left out. -/
def Obligations.BadSessionBeforeEveryOtherTest : Prop :=
  (∀ (i : Instr) (sid : Sid) (s : State), instrSlot i = some sid → instrFits s.config i = true →
    s.slots.length ≤ sid.toNat → exec i s = .next (s.answer (errorResponse .badSession) [])) ∧
  (∀ (sid : Sid) (s : State), s.slots.length = 256 → ∃ sl : Slot, s.slot? sid = some sl)

/-- R176 (`60_exceptions.md`): a response whose status is not `OK` has no other field, and the command wrote nothing but
that response: no record, no counter, no event. Codes 7 and 8 and `BadCommand` are never an instruction's (R173, R75). -/
def Obligations.ErrorsLeaveNoTrace : Prop :=
  ∀ (i : Instr) (s t : State) (r : Response), exec i s = .next t → t.resp = some r → r.status ≠ .ok →
    t = s.answer { status := r.status } [] ∧ r.status ≠ .stringTooLong ∧ r.status ≠ .invalidEncoding ∧
      r.status ≠ .badCommand

/-- R163 (`46_tracker_rx.md`): after a command that answered an error, every instruction does what it would have done had the
failed one not been issued. -/
def Obligations.FailedCommandIsAsIfNeverIssued : Prop :=
  ∀ (i j : Instr) (s t : State) (r : Response), exec i s = .next t → t.resp = some r → r.status ≠ .ok →
    exec j t = exec j s

/-- R41 with R74 (`20_memory.md`, `30_encoding.md`; D12): with `BUF_MAX` ≥ 19, an instruction whose buffers fit `BUF_MAX`
answers with exactly one response and no other outcome; one whose buffers do not is refused. Which refusal is the
model's (log 7). -/
def Obligations.AcceptedExactlyWhenItFits : Prop :=
  ∀ (i : Instr) (s : State), 19 ≤ s.bufMax →
    (instrFits s.config i = true →
      ∃ (t : State) (r : Response), exec i s = .next t ∧ t.resp = some r ∧ r.obuf.length ≤ s.bufMax) ∧
    (instrFits s.config i = false → exec i s = .refused .inputTooLong ∨ exec i s = .refused .outputTooLong)

/-- R47 and R196 (`20_memory.md`, `70_reset_and_hazards.md`): the instructions about no slot change nothing but the response,
emit nothing, and answer the same whatever the session file and the counters hold. R47 counts `HS.QRY` as pure too, though
R143 makes its response the record: the model's choice (log 14) is to follow R143, so `HS.QRY` changes nothing but the
response, emits nothing, and answers the same wherever its slot holds the same record, or is absent in both. -/
def Obligations.PureCommandsIgnoreTheState : Prop :=
  (∀ (i : Instr) (s s' t : State), instrSlot i = none → s'.bufMax = s.bufMax → exec i s = .next t →
    ∃ r : Response, t = s.answer r [] ∧ exec i s' = .next (s'.answer r [])) ∧
  (∀ (sid : Sid) (s s' : State), (s'.slot? sid).map Slot.hs = (s.slot? sid).map Slot.hs →
    ∃ r : Response, exec (.hsQry sid) s = .next (s.answer r []) ∧ exec (.hsQry sid) s' = .next (s'.answer r []))

/-! ### Which instruction writes what -/

/-- R186 and R26 (`60_exceptions.md`, `10_state.md`; D28): an instruction leaves every slot it is not about, the number of
slots, `BUF_MAX` and the host's script as they were. -/
def Obligations.OtherSlotsAreUntouched : Prop :=
  ∀ (i : Instr) (s t : State), exec i s = .next t →
    t.slots.length = s.slots.length ∧ t.bufMax = s.bufMax ∧ t.script = s.script ∧
    ∀ k : Sid, instrSlot i ≠ some k → t.slot? k = s.slot? k

/-- R186 and R26: what a session instruction answers, emits and writes in its slot depends on that slot and `BUF_MAX` only,
on nothing of any other slot. -/
def Obligations.OtherSlotsAreUnobservable : Prop :=
  ∀ (i : Instr) (sid : Sid) (s s' t : State), instrSlot i = some sid → s'.bufMax = s.bufMax →
    s'.slot? sid = s.slot? sid → exec i s = .next t →
    ∃ t' : State, exec i s' = .next t' ∧ t'.resp = t.resp ∧ t'.events = t.events ∧ t'.slot? sid = t.slot? sid

/-- R23 and R29 (`10_state.md`, the columns "written by") with R158: a record changes only by a handshake message, through
`HS.MSG`, through `RX.DGRAM` of a valid frame of such a type (R161 a), or as a message row (log 4), or by `HS.RST`; a counter only by `TRK.NEXT` or `TRK.RST`;
each on that slot. -/
def Obligations.StateHasOnlyItsNamedWriters : Prop :=
  ∀ (i : Instr) (s t : State) (k : Sid) (sl sl' : Slot), exec i s = .next t → s.slot? k = some sl →
    t.slot? k = some sl' →
    (sl'.hs ≠ sl.hs →
      (∃ m q u, i = .hsMsg k m q u ∧ m ∈ ([0x01, 0x02, 0x03] : List Byte)) ∨
      (∃ B, i = .rxDgram k B ∧ frameVerdict B = .ok ∧ (headerAt B).mtype ∈ ([0x01, 0x02, 0x03] : List Byte)) ∨
      i = .hsRst k ∨
      (∃ f P, i = .msgClientHello k f P ∨ i = .msgClientJoinRequest k f P ∨ i = .msgClientReady k f P)) ∧
    ((sl'.seq ≠ sl.seq ∨ sl'.tick ≠ sl.tick) → i = .trkNext k ∨ i = .trkRst k)

/-- R27 and R147 c (`10_state.md`, `45_handshake.md`; [derived: from rule R140]): an instruction other than `HS.RST` on the
slot clears no flag and never lowers the state; so only `HS.RST` leaves `Established` (R145). -/
def Obligations.FlagsAndStateOnlyRise : Prop :=
  ∀ (i : Instr) (s t : State) (k : Sid) (sl sl' : Slot), i ≠ .hsRst k → exec i s = .next t → s.slot? k = some sl →
    t.slot? k = some sl' →
    (sl.hs.sawHello = true → sl'.hs.sawHello = true) ∧ (sl.hs.sawJoin = true → sl'.hs.sawJoin = true) ∧
    (sl.hs.sawReady = true → sl'.hs.sawReady = true) ∧
    (hsStateCode sl.hs.state).toNat ≤ (hsStateCode sl'.hs.state).toNat

/-! ### The handshake machine -/

/-- R137, R138, R139 with the cascade of R140 (`45_handshake.md`; D13): in any state the message's flag is set and the others
kept; then the three guarded advances are tried in order, each on the state the one before left. -/
def Obligations.HandshakeStepMarksThenCascades : Prop :=
  ∀ (r : Session) (m : Byte),
    (hsStep r m).sawHello = (r.sawHello || decide (m = 0x01)) ∧
    (hsStep r m).sawJoin = (r.sawJoin || decide (m = 0x02)) ∧
    (hsStep r m).sawReady = (r.sawReady || decide (m = 0x03)) ∧
    ∃ s1 s2 : HsState,
      s1 = (if r.state = .awaitingHello ∧ (hsStep r m).sawHello = true then .awaitingJoin else r.state) ∧
      s2 = (if s1 = .awaitingJoin ∧ (hsStep r m).sawHello = true ∧ (hsStep r m).sawJoin = true then .awaitingReady
            else s1) ∧
      (hsStep r m).state =
        (if s2 = .awaitingReady ∧ (hsStep r m).sawHello = true ∧ (hsStep r m).sawJoin = true ∧
            (hsStep r m).sawReady = true then .established else s2)

/-- R148 (`45_handshake.md`, [derived: from rule R140]) over the eight records of R28: the new record is the one whose flags
are the old ones and the message's, its state the function of the flags; packed as R25 says; every other type changes
nothing. -/
def Obligations.TransitionTableOfTheReachableRecords : Prop :=
  (∀ (h j r : Bool) (m : Byte),
    hsStep (recordOfFlags h j r) m =
      recordOfFlags (h || decide (m = 0x01)) (j || decide (m = 0x02)) (r || decide (m = 0x03))) ∧
  packSession (recordOfFlags false false false) = 0x00 ∧ packSession (recordOfFlags false true false) = 0x08 ∧
  packSession (recordOfFlags false false true) = 0x10 ∧ packSession (recordOfFlags false true true) = 0x18 ∧
  packSession (recordOfFlags true false false) = 0x05 ∧ packSession (recordOfFlags true false true) = 0x15 ∧
  packSession (recordOfFlags true true false) = 0x0E ∧ packSession (recordOfFlags true true true) = 0x1F

/-- R147 d, e (`45_handshake.md`, [derived: from rule R140]) on all records, reachable or not (`95_test_vectors.md`
section 6): the handshake step is idempotent and commutative. -/
def Obligations.HandshakeStepIsIdempotentAndCommutative : Prop :=
  ∀ (r : Session) (a b : Byte),
    hsStep (hsStep r a) a = hsStep r a ∧ hsStep (hsStep r a) b = hsStep (hsStep r b) a

/-- R147 a, b (`45_handshake.md`, [derived: from rule R140]): from a fresh record, any sequence of `HS.MSG` on one slot is
answered throughout, and its final record is `Established` exactly when it held each of the three handshake types, in
any order, with any duplicates and other types between. -/
def Obligations.EstablishedExactlyWhenAllThreeArrived : Prop :=
  ∀ (sid : Sid) (s : State) (sl : Slot) (ms : List (Byte × U32 × U32)), s.slot? sid = some sl →
    sl.hs = ⟨.awaitingHello, false, false, false⟩ → 19 ≤ s.bufMax →
    ∃ (t : State) (sl' : Slot),
      execAll (ms.map (fun m => .hsMsg sid m.1 m.2.1 m.2.2)) s = .next t ∧ t.slot? sid = some sl' ∧
      (sl'.hs.state = .established ↔
        (0x01 : Byte) ∈ ms.map Prod.fst ∧ (0x02 : Byte) ∈ ms.map Prod.fst ∧ (0x03 : Byte) ∈ ms.map Prod.fst)

/-! ### The tracker -/

/-- R155 repeated (`46_tracker_rx.md`; D9, "The differences … are exact"): n calls of `TRK.NEXT` on one slot move the counters
by n modulo 2^16 and 2^32, independently, and leave its record. -/
def Obligations.TrackerCountsItsCalls : Prop :=
  ∀ (sid : Sid) (n : Nat) (s : State) (sl : Slot), s.slot? sid = some sl →
    ∃ (t : State) (sl' : Slot),
      execAll (List.replicate n (.trkNext sid)) s = .next t ∧ t.slot? sid = some sl' ∧ sl'.hs = sl.hs ∧
      sl'.seq.toNat = (sl.seq.toNat + n) % 2 ^ 16 ∧ sl'.tick.toNat = (sl.tick.toNat + n) % 2 ^ 32

/-! ### The wire format -/

/-- R95 (`41_crc32.md`, [derived: from rule R91]): the byte step in table form, the table entry being the byte put through
eight conditional shift steps, and the rule's check values. -/
def Obligations.CrcByteStepIsTheTableForm : Prop :=
  (∀ (acc : U32) (b : Byte),
    crcByte acc b = (acc >>> 8) ^^^ crcBits 8 (((acc ^^^ b.setWidth 32).extractLsb' 0 8).setWidth 32)) ∧
  ([0, 1, 2, 3, 4, 8, 16, 32, 64, 128, 255] : List U32).map (crcBits 8) =
    [0x00000000, 0x77073096, 0xEE0E612C, 0x990951BA, 0x076DC419, 0x0EDB8832, 0x1DB71064, 0x3B6E20C8, 0x76DC4190,
     0xEDB88320, 0x2D02EF8D]

/-- R96 (`41_crc32.md`): inverting one bit changes the CRC, and by how much depends only on the bit's position counted from
the end of the sequence. -/
def Obligations.CrcDetectsEverySingleBitError : Prop :=
  (∀ (B : Bytes) (k : Nat), k < 8 * B.length → crc32 (flipBit B k) ≠ crc32 B) ∧
  (∀ (B C : Bytes) (k j : Nat), k < 8 * B.length → j < 8 * C.length → k % 8 = j % 8 →
    B.length - k / 8 = C.length - j / 8 →
    crc32 (flipBit B k) ^^^ crc32 B = crc32 (flipBit C j) ^^^ crc32 C)

/-- R106 (`42_header_codec.md`, [derived: from rule R101 and rule R104]): what `HDR.ENC` put in `OBUF`, `HDR.DEC` takes apart into
the same fields, each reduced to its width. -/
def Obligations.HeaderRoundTrip : Prop :=
  ∀ (pt mt : Byte) (sq tk ps : U32) (s : State), 15 ≤ s.bufMax →
    ∃ (t : State) (H : Bytes),
      exec (.hdrEnc pt mt sq tk ps) s = .next t ∧ t.resp = some { status := .ok, obuf := H } ∧
      exec (.hdrDec H) t = .next (t.answer
        { status := .ok,
          hdr := some (wireHeader pt mt (BitVec.ofNat 16 sq.toNat) tk (BitVec.ofNat 16 ps.toNat)) } [])

/-- R106, conversely: a 15-byte buffer that `HDR.DEC` accepts is what `HDR.ENC` makes of the fields it returned. -/
def Obligations.HeaderRoundTripConverse : Prop :=
  ∀ (B : Bytes) (s t : State) (h : Header), B.length = 15 → 15 ≤ s.bufMax → exec (.hdrDec B) s = .next t →
    t.resp = some { status := .ok, hdr := some h } →
    exec (.hdrEnc h.ptype h.mtype (BitVec.ofNat 32 h.seq.toNat) h.tick (BitVec.ofNat 32 h.psize.toNat)) s =
      .next (s.answer { status := .ok, obuf := B } [])

/-- R129 (`44_framer.md`, [derived: from rule R120, rule R124 and `42_header_codec.md` rule R106]): a frame that `FRM.ASM` composed
around at most 65535 payload bytes is accepted by `FRM.PARSE`, which returns its fields and its payload. -/
def Obligations.FrameRoundTrip : Prop :=
  ∀ (pt mt : Byte) (sq tk : U32) (P : Bytes) (s : State), P.length ≤ 65535 → P.length + 19 ≤ s.bufMax →
    ∃ (t : State) (F : Bytes),
      exec (.frmAsm pt mt sq tk P) s = .next t ∧ t.resp = some { status := .ok, obuf := F } ∧
      exec (.frmParse F) t = .next (t.answer
        { status := .ok,
          hdr := some (wireHeader pt mt (BitVec.ofNat 16 sq.toNat) tk (BitVec.ofNat 16 P.length)),
          obuf := P } [])

/-- R129, conversely: a datagram that `FRM.PARSE` accepts is, byte for byte, the frame `FRM.ASM` composes of the header fields
and the payload it returned. -/
def Obligations.FrameRoundTripConverse : Prop :=
  ∀ (B : Bytes) (s t : State) (h : Header) (P : Bytes), exec (.frmParse B) s = .next t →
    t.resp = some { status := .ok, hdr := some h, obuf := P } →
    exec (.frmAsm h.ptype h.mtype (BitVec.ofNat 32 h.seq.toNat) h.tick P) s =
      .next (s.answer { status := .ok, obuf := B } [])

/-- R126 (`44_framer.md`, [derived: from rule R124 and `41_crc32.md` rule R96], `90_conflicts.md` C4): inverting any one bit of a
datagram that `FRM.PARSE` accepts makes it fail, with the error the rule's table gives for the bit's place. -/
def Obligations.EverySingleBitFlipIsRejected : Prop :=
  ∀ (F : Bytes) (s t : State) (r : Response) (k : Nat), exec (.frmParse F) s = .next t → t.resp = some r →
    r.status = .ok → k < 8 * F.length →
    exec (.frmParse (flipBit F k)) s = .next (s.answer (errorResponse (flipVerdict F k)) [])

/-- R125 d, e (`44_framer.md`, [derived: from rule R124]): a valid frame cut anywhere is `TooShort`; with bytes appended it is
`PayloadSizeMismatch`. -/
def Obligations.CutAndExtendedFramesAreRejected : Prop :=
  ∀ (F : Bytes) (s t : State) (r : Response), exec (.frmParse F) s = .next t → t.resp = some r → r.status = .ok →
    (∀ n : Nat, n < F.length → exec (.frmParse (F.take n)) s = .next (s.answer (errorResponse .tooShort) [])) ∧
    (∀ x : Bytes, x ≠ [] → F.length + x.length ≤ s.bufMax →
      exec (.frmParse (F ++ x)) s = .next (s.answer (errorResponse .payloadSizeMismatch) []))

/-- R121 c, R125 f, R207 (`44_framer.md`, `70_reset_and_hazards.md`; [derived]): `FRM.ASM` does not refuse a payload over 65535
bytes, and `FRM.PARSE` rejects the result with `PayloadSizeMismatch`. -/
def Obligations.OverlongPayloadsCannotBeParsed : Prop :=
  ∀ (pt mt : Byte) (sq tk : U32) (P : Bytes) (s : State), 65535 < P.length → P.length + 19 ≤ s.bufMax →
    ∃ (t : State) (F : Bytes),
      exec (.frmAsm pt mt sq tk P) s = .next t ∧ t.resp = some { status := .ok, obuf := F } ∧
      exec (.frmParse F) t = .next (t.answer (errorResponse .payloadSizeMismatch) [])

/-! ### Compositions -/

/-- R162 (`46_tracker_rx.md`, [derived]): on a valid frame of a handshake type or a ping, `RX.DGRAM` equals `FRM.PARSE` followed by
`HS.MSG` with the fields it returned: same slots, same `kind`, `hsreg`, `est` and `OBUF`, and the header of the first. -/
def Obligations.RxDgramIsParseThenTransition : Prop :=
  ∀ (sid : Sid) (B : Bytes) (s : State) (sl : Slot), s.slot? sid = some sl → B.length ≤ s.bufMax →
    frameVerdict B = .ok → (headerAt B).mtype ∈ ([0x01, 0x02, 0x03, 0x04] : List Byte) →
    ∃ (t u v : State) (h : Header) (rp ru rv : Response),
      exec (.frmParse B) s = .next t ∧ t.resp = some rp ∧ rp.hdr = some h ∧
      exec (.hsMsg sid h.mtype (BitVec.ofNat 32 h.seq.toNat) h.tick) t = .next u ∧ u.resp = some ru ∧
      exec (.rxDgram sid B) s = .next v ∧ v.resp = some rv ∧
      v.slots = u.slots ∧ rv = { ru with hdr := some h }

/-- R52 (`20_memory.md`, [derived: from `10_state.md` rules R23, R29 and rule R51]): two instructions that are not about one slot give
the same two responses and events and the same final slots in either order.R52's clause on pure commands holds
so for those about no slot; `HS.QRY`, a pure command by R47, is one about its slot (the model's choice, log 14). -/
def Obligations.DifferentSlotsCommute : Prop :=
  ∀ (i j : Instr) (s t u : State), (∀ a b : Sid, instrSlot i = some a → instrSlot j = some b → a ≠ b) →
    exec i s = .next t → exec j t = .next u →
    ∃ t' u' : State,
      exec j s = .next t' ∧ exec i t' = .next u' ∧ u'.slots = u.slots ∧ t'.resp = u.resp ∧ u'.resp = t.resp ∧
      t'.events = u.events ∧ u'.events = t.events

/-- R197 (`70_reset_and_hazards.md`, [derived: from rule R195]): `HS.RST` and `TRK.RST` on every slot leave the slots as `RESET`
leaves them, every one fresh. -/
def Obligations.PerSlotResetsAmountToReset : Prop :=
  ∀ s : State, s.slots.length ≤ 256 →
    ∃ t : State,
      execAll ((List.range s.slots.length).flatMap
        (fun k => [.hsRst (BitVec.ofNat 8 k), .trkRst (BitVec.ofNat 8 k)])) s = .next t ∧
      t.slots = List.replicate s.slots.length ⟨⟨.awaitingHello, false, false, false⟩, 0, 0⟩ ∧
      t.slots = s.applyReset.slots

/-! ### The step, reset, the invariant -/

/-- R6 and R51 (`00_scope.md`, `20_memory.md`): where the host's next command decodes to an instruction, a step is that
instruction's meaning, the command having left the script (the model's own field, log 2). The command's `IBUF`, used
or not, is one R41 accepts (log 7). -/
def Obligations.StepRunsTheDecodedCommand : Prop :=
  ∀ (s : State) (c : Command) (rest : List HostInput) (i : Instr), s.script = .command c :: rest →
    c.ibuf.length ≤ s.bufMax → decode (.command c) = .ok i → step s = exec i { s with script := rest }

/-- R75 (`30_encoding.md`, the spec's decision D19): a command word whose `op` is not one of the 14 gives `BadCommand`, writes no
state, leaves `OBUF` empty and emits nothing; 242 values of `op` are so reserved. -/
def Obligations.ReservedOpcodesAnswerBadCommand : Prop :=
  (∀ (s : State) (c : Command) (rest : List HostInput), s.script = .command c :: rest → c.ibuf.length ≤ s.bufMax →
    opField c.word ∉ opCodes →
    step s = .next (State.answer { s with script := rest } { status := .badCommand } [])) ∧
  ((List.range 256).filter (fun n => decide (BitVec.ofNat 8 n ∉ opCodes))).length = 242

/-- R41 at the step (`20_memory.md`, D12): a command whose `IBUF` is longer than `BUF_MAX` is not accepted, whatever its `op`
(the model's reading for a command that ignores `IBUF`, log 7). With nothing issued a step changes nothing (R6 "Nothing else
changes the state"; the model's idle step, log 2). -/
def Obligations.StepRefusesOverlongInputAndIdles : Prop :=
  (∀ (s : State) (c : Command) (rest : List HostInput), s.script = .command c :: rest → s.bufMax < c.ibuf.length →
    step s = .refused .inputTooLong) ∧
  (∀ s : State, s.script = [] → step s = .next s)

/-- R195 (`70_reset_and_hazards.md`, the spec's decision D8): `RESET` sets every slot to `AwaitingHello`, no flag, counters 0; it
has no response and emits no event. (That it comes from the script, and leaves it, is the model's, log 9.) -/
def Obligations.ResetFreshensEverySlot : Prop :=
  ∀ (s : State) (rest : List HostInput), s.script = .reset :: rest →
    step s = .next
      { slots := List.replicate s.slots.length ⟨⟨.awaitingHello, false, false, false⟩, 0, 0⟩
        bufMax := s.bufMax
        resp := none
        events := []
        script := rest }

/-- `10_state.md` R33 at the model's own parameters (log 1): after reset every slot is fresh; the invariant holds; the number of
slots and `BUF_MAX` are the model's choice of the spec's recommended defaults. -/
def Obligations.InvariantHoldsAtReset : Prop :=
  stateInv State.reset = true ∧
  ∀ (sid : Sid), State.reset.slot? sid = some ⟨⟨.awaitingHello, false, false, false⟩, 0, 0⟩

/-- R28, R8, R41, R74 (`10_state.md`, `00_scope.md`, `20_memory.md`, `30_encoding.md`; R28 is [derived]): the parameters stay legal, every
session record stays one of the eight reachable ones, and the response on the port stays one the block may give. -/
def Obligations.StepKeepsTheInvariant : Prop :=
  ∀ s t : State, stateInv s = true → step s = .next t → stateInv t = true

/-! ### Encoding -/

/-- `30_encoding.md` R60, R67, R71 to R73: decoding what the encoder wrote gives the instruction back, every operand at every value. -/
def Obligations.DecodeEncodeRoundTrip : Prop :=
  ∀ (c : Config) (i : Instr), i.wellFormed c = true → decode (encode i) = .ok i

/-- `30_encoding.md` R60, R66, R67, R69: a header vector and payload that decode are what the encoder writes for their
instruction, so each message word has one meaning. -/
def Obligations.DecodedMessagesEncodeBack : Prop :=
  ∀ (sid : Sid) (v : HeaderVector) (P : Bytes) (i : Instr), decode (.message sid v P) = .ok i →
    encode i = .message sid v P

/-- `30_encoding.md` R71, R72, R73, R75: a command decodes exactly when its `op` is one of the 14, else it is `BadCommand`; the `sid`
field of a command that uses no slot does not matter (U12). -/
def Obligations.OpcodesDecodeAndUnusedSlotIsIgnored : Prop :=
  (∀ c : Command, (∃ i : Instr, decode (.command c) = .ok i) ↔ opField c.word ∈ opCodes) ∧
  (∀ c : Command, opField c.word ∉ opCodes → decode (.command c) = .error .badCommand) ∧
  (∀ (op : Byte) (a b : Sid) (x : Operands) (B : Bytes), op ∉ sessionOpCodes →
    decode (.command ⟨commandWord op a, x, B⟩) = decode (.command ⟨commandWord op b, x, B⟩))

/-- Words written out from `30_encoding.md` R60, R66, R73 and their instructions. The two message words are instructions by
the model's reading (log 4). In the last two clauses, of table words, only the words are the spec's: slot 0, the operands of
zeros and the payload of zeros are the model's choice (log 6). -/
def Obligations.WrittenWordsDecode : Prop :=
  decode (.command { word := 0x1077, ibuf := [0x61] }) = .ok (.crcGen [0x61]) ∧
  decode (.command { word := 0x2000, args := { ptype := 2, mtype := 0x14, seq := 1, tick := 1, psize := 21 } }) =
    .ok (.hdrEnc 2 0x14 1 1 21) ∧
  decode (.command { word := 0x4200, args := { seq := 5, tick := 6 } }) = .ok (.frmPong 5 6) ∧
  decode (.command { word := 0x5003, args := { mtype := 1, seq := 7, tick := 8 } }) = .ok (.hsMsg 3 1 7 8) ∧
  decode (.command { word := 0x61FF }) = .ok (.trkRst 0xFF) ∧
  decode (.command { word := 0x7001, ibuf := [0xA3] }) = .ok (.rxDgram 1 [0xA3]) ∧
  decode (.command { word := 0x3000 }) = .error .badCommand ∧
  decode (.message 4 0xA35FC81D0102141234DEADBEEF0001 [0xAA]) =
    .ok (.msgSnapshot 4 ⟨2, 0x1234, 0xDEADBEEF, 1⟩ [0xAA]) ∧
  decodeTableWord 16 0x6002 = some (.trkNext 2) ∧
  decodeTableWord 120 0xA35FC81D0100010000000000000000 = some (.msgClientHello 0 ⟨0, 0, 0, 0⟩ [])

/-- The status codes of `60_exceptions.md` R170 (numbers by D5, D19), the codes of `kind` of `30_encoding.md` R74, and the packed
view of `10_state.md` R25 (D7), bit by bit. -/
def Obligations.StatusCodesAndPackedView : Prop :=
  ([.ok, .tooShort, .badMagic, .unsupportedVersion, .payloadSizeMismatch, .checksumMismatch, .unknownMessageType,
    .stringTooLong, .invalidEncoding, .badSession, .badCommand] : List Status).map (fun e => (statusCode e).toNat) =
    [0, 1, 2, 3, 4, 5, 6, 7, 8, 9, 10] ∧
  ([.nothing, .handshake, .pong, .deliver] : List ResponseKind).map (fun k => (kindCode k).toNat) = [0, 1, 2, 3] ∧
  ∀ r : Session, (packSession r).toNat =
    (hsStateCode r.state).toNat + 4 * r.sawHello.toNat + 8 * r.sawJoin.toNat + 16 * r.sawReady.toNat
end

