-- ==== Sys2Proof/Laws/State.lean ====
section
/-!
SUPPORT. One lemma per field per update of `State`, so that no later proof unfolds a record update.
-/

namespace Sys2Proof.Machine

@[simp] theorem State.answer_slots (s : State) (r : Response) (ev : List Activity) : (s.answer r ev).slots = s.slots := rfl
@[simp] theorem State.answer_bufMax (s : State) (r : Response) (ev : List Activity) : (s.answer r ev).bufMax = s.bufMax := rfl
@[simp] theorem State.answer_resp (s : State) (r : Response) (ev : List Activity) : (s.answer r ev).resp = some r := rfl
@[simp] theorem State.answer_events (s : State) (r : Response) (ev : List Activity) : (s.answer r ev).events = ev := rfl
@[simp] theorem State.answer_script (s : State) (r : Response) (ev : List Activity) : (s.answer r ev).script = s.script := rfl
@[simp] theorem State.answer_slot? (s : State) (r : Response) (ev : List Activity) (k : Sid) :
    (s.answer r ev).slot? k = s.slot? k := rfl
@[simp] theorem State.answer_config (s : State) (r : Response) (ev : List Activity) : (s.answer r ev).config = s.config := rfl

/-- A response replaces the one before it, and its events. -/
@[simp] theorem State.answer_answer (s : State) (r r' : Response) (ev ev' : List Activity) :
    (s.answer r ev).answer r' ev' = s.answer r' ev' := rfl

@[simp] theorem State.setSlot_slots (s : State) (sid : Sid) (sl : Slot) :
    (s.setSlot sid sl).slots = s.slots.set sid.toNat sl := rfl
@[simp] theorem State.setSlot_bufMax (s : State) (sid : Sid) (sl : Slot) : (s.setSlot sid sl).bufMax = s.bufMax := rfl
@[simp] theorem State.setSlot_resp (s : State) (sid : Sid) (sl : Slot) : (s.setSlot sid sl).resp = s.resp := rfl
@[simp] theorem State.setSlot_events (s : State) (sid : Sid) (sl : Slot) : (s.setSlot sid sl).events = s.events := rfl
@[simp] theorem State.setSlot_script (s : State) (sid : Sid) (sl : Slot) : (s.setSlot sid sl).script = s.script := rfl
@[simp] theorem State.setSlot_config (s : State) (sid : Sid) (sl : Slot) : (s.setSlot sid sl).config = s.config := by
  simp [State.config]

@[simp] theorem State.setSlot_answer (s : State) (r : Response) (ev : List Activity) (sid : Sid) (sl : Slot) :
    (s.answer r ev).setSlot sid sl = (s.setSlot sid sl).answer r ev := rfl

@[simp] theorem State.applyReset_slots (s : State) :
    s.applyReset.slots = List.replicate s.slots.length Slot.fresh := by
  simp [State.applyReset]
@[simp] theorem State.applyReset_bufMax (s : State) : s.applyReset.bufMax = s.bufMax := rfl
@[simp] theorem State.applyReset_resp (s : State) : s.applyReset.resp = none := rfl
@[simp] theorem State.applyReset_events (s : State) : s.applyReset.events = [] := rfl
@[simp] theorem State.applyReset_script (s : State) : s.applyReset.script = s.script := rfl

/-! ### Slots -/

/-- A slot is absent exactly when its index is `NSESS` or more (`30_encoding.md` R76). -/
theorem State.slot?_eq_none (s : State) (sid : Sid) : s.slot? sid = none ↔ s.slots.length ≤ sid.toNat := by
  simp [State.slot?]

theorem State.slot?_lt {s : State} {sid : Sid} {sl : Slot} (h : s.slot? sid = some sl) :
    sid.toNat < s.slots.length := by
  have h' : s.slots[sid.toNat]? = some sl := h
  exact (List.getElem?_eq_some_iff.mp h').1

/-- Reading the slot just written, where it exists. -/
theorem State.setSlot_slot?_self {s : State} {sid : Sid} {sl : Slot} (sl' : Slot) (h : s.slot? sid = some sl) :
    (s.setSlot sid sl').slot? sid = some sl' := by
  simp [State.slot?, State.slot?_lt h]

/-- Writing one slot leaves every other slot alone (`60_exceptions.md` R186). -/
theorem State.setSlot_slot?_ne (s : State) {sid k : Sid} (sl : Slot) (h : k ≠ sid) :
    (s.setSlot sid sl).slot? k = s.slot? k := by
  have : sid.toNat ≠ k.toNat := fun e => h (BitVec.eq_of_toNat_eq e.symm)
  simp [State.slot?, List.getElem?_set_ne this]

/-- Writing back the slot that is there changes nothing. -/
theorem State.setSlot_same {s : State} {sid : Sid} {sl : Slot} (h : s.slot? sid = some sl) : s.setSlot sid sl = s := by
  have h' : s.slots[sid.toNat]? = some sl := h
  obtain ⟨hlt, he⟩ := List.getElem?_eq_some_iff.mp h'
  simp only [State.setSlot]
  rw [← he, List.set_getElem_self]

end Sys2Proof.Machine
end

