-- ==== Sys2Proof/Laws/Ops.lean ====
section
/-!
SUPPORT. For each shared operation, once, everything it can do; the lengths of what the codecs write.
-/

namespace Sys2Proof.Machine

/-! ### Answering -/

@[simp] theorem State.raise_eq (s : State) (e : Status) : s.raise e = .next (s.answer (errorResponse e) []) := rfl

/-- `respond` answers, or refuses an `OBUF` longer than `BUF_MAX` (`20_memory.md` R41). -/
theorem State.respond_eq (s : State) (r : Response) (ev : List Activity) :
    s.respond r ev = if s.bufMax < r.obuf.length then .refused .outputTooLong else .next (s.answer r ev) := rfl

theorem State.respond_fits {s : State} {r : Response} (h : r.obuf.length ≤ s.bufMax) (ev : List Activity) :
    s.respond r ev = .next (s.answer r ev) := by
  rw [State.respond_eq, if_neg (by omega)]

theorem State.respond_tooLong {s : State} {r : Response} (h : s.bufMax < r.obuf.length) (ev : List Activity) :
    s.respond r ev = .refused .outputTooLong := by
  rw [State.respond_eq, if_pos h]

theorem State.respond_next {s t : State} {r : Response} {ev : List Activity} (h : s.respond r ev = .next t) :
    r.obuf.length ≤ s.bufMax ∧ t = s.answer r ev := by
  rw [State.respond_eq] at h
  split at h
  · cases h
  · cases h; exact ⟨by omega, rfl⟩

theorem State.withInput_fits {s : State} {n : Nat} (h : n ≤ s.bufMax) (k : Host.Outcome State Fault Refusal) :
    s.withInput n k = k := by
  rw [State.withInput, if_neg (by omega)]

theorem State.withInput_tooLong {s : State} {n : Nat} (h : s.bufMax < n) (k : Host.Outcome State Fault Refusal) :
    s.withInput n k = .refused .inputTooLong := by
  rw [State.withInput, if_pos h]

theorem State.withInput_next {s t : State} {n : Nat} {k : Host.Outcome State Fault Refusal}
    (h : s.withInput n k = .next t) : n ≤ s.bufMax ∧ k = .next t := by
  rw [State.withInput] at h
  split at h
  · cases h
  · exact ⟨by omega, h⟩

theorem State.withSlot_some {s : State} {sid : Sid} {sl : Slot} (h : s.slot? sid = some sl)
    (k : Slot → Host.Outcome State Fault Refusal) : s.withSlot sid k = k sl := by
  simp [State.withSlot, h]

theorem State.withSlot_none {s : State} {sid : Sid} (h : s.slot? sid = none)
    (k : Slot → Host.Outcome State Fault Refusal) : s.withSlot sid k = .next (s.answer (errorResponse .badSession) []) := by
  simp [State.withSlot, h]

/-- What a session instruction can do: raise `BadSession` on an absent slot, or go on with the slot. -/
theorem State.withSlot_next {s t : State} {sid : Sid} {k : Slot → Host.Outcome State Fault Refusal}
    (h : s.withSlot sid k = .next t) :
    (s.slot? sid = none ∧ t = s.answer (errorResponse .badSession) []) ∨
    (∃ sl, s.slot? sid = some sl ∧ k sl = .next t) := by
  cases hs : s.slot? sid with
  | none =>
    rw [State.withSlot_none hs] at h
    cases h
    exact .inl ⟨rfl, rfl⟩
  | some sl => exact .inr ⟨sl, rfl, by rw [State.withSlot_some hs] at h; exact h⟩

theorem State.handshakeStep_eq (s : State) (sid : Sid) (sl : Slot) (m : Byte) (h : Option Header) :
    s.handshakeStep sid sl m h = .next ((s.setSlot sid { sl with hs := hsStep sl.hs m }).answer
      { sessionResponse (hsStep sl.hs m) with kind := some .handshake, hdr := h } []) :=
  State.respond_fits (Nat.zero_le _) []

theorem State.pongReply_next {s t : State} {sl : Slot} {seq tick : U32} {h : Option Header}
    (hn : s.pongReply sl seq tick h = .next t) :
    t = s.answer
      { sessionResponse sl.hs with kind := some .pong, hdr := h, obuf := memWrite [] 0 (pong seq tick) } [] :=
  (State.respond_next hn).2

theorem State.deliver_next {s t : State} {sl : Slot} {h : Header} {p : Bytes} (hn : s.deliver sl h p = .next t) :
    t = s.answer
      { sessionResponse sl.hs with kind := some .deliver, hdr := some h, obuf := memWrite [] 0 p } [] :=
  (State.respond_next hn).2

theorem State.withMessage_fits {s : State} {sid : Sid} {sl : Slot} {p : Bytes} (hs : s.slot? sid = some sl)
    (hp : p.length + 19 ≤ s.bufMax) (k : Slot → Host.Outcome State Fault Refusal) : s.withMessage sid p k = k sl := by
  rw [State.withMessage, State.withInput_fits (by simp only [hdrLen, trlLen]; omega), State.withSlot_some hs]

/-! ### The registry (`30_encoding.md` R66) -/

@[simp] theorem msgCode_clientHello : msgCode .clientHello = 0x01 := rfl
@[simp] theorem msgCode_clientJoinRequest : msgCode .clientJoinRequest = 0x02 := rfl
@[simp] theorem msgCode_clientReady : msgCode .clientReady = 0x03 := rfl
@[simp] theorem msgCode_clientPing : msgCode .clientPing = 0x04 := rfl
@[simp] theorem msgCode_clientInput : msgCode .clientInput = 0x05 := rfl
@[simp] theorem msgCode_snapshot : msgCode .snapshot = 0x14 := rfl
@[simp] theorem msgCode_levelInit : msgCode .levelInit = 0x30 := rfl

/-- A name's code is the name's. -/
theorem msgOfCode_msgCode (m : MsgType) : msgOfCode (msgCode m) = some m := by cases m <;> rfl

/-- A code that has a name is that name's. -/
theorem msgCode_of_msgOfCode {c : Byte} {m : MsgType} (h : msgOfCode c = some m) : c = msgCode m := by
  unfold msgOfCode at h
  repeat' split at h
  all_goals first
    | cases h; assumption
    | cases h

/-! ### Buffers -/

/-- Writing from offset 0 into an empty `OBUF` leaves just what was written (`20_memory.md` R45). -/
@[simp] theorem memWrite_empty (v : Bytes) : memWrite [] 0 v = v := by simp [memWrite]

/-- `MAGIC` on the wire (`00_scope.md` R9). -/
theorem magicBytes_eq : magicBytes = [0xA3, 0x5F, 0xC8, 0x1D] := by decide

@[simp] theorem be16_length (v : U16) : (be16 v).length = 2 := rfl
@[simp] theorem be32_length (v : U32) : (be32 v).length = 4 := rfl

@[simp] theorem encodeHeader_length (pt mt : Byte) (sq tk ps : U32) : (encodeHeader pt mt sq tk ps).length = 15 := rfl

@[simp] theorem sealBody_length (body : Bytes) : (sealBody body).length = body.length + 4 := by simp [sealBody]

@[simp] theorem assemble_length (pt mt : Byte) (sq tk : U32) (p : Bytes) :
    (assemble pt mt sq tk p).length = p.length + 19 := by
  simp [assemble]; omega

@[simp] theorem pong_length (sq tk : U32) : (pong sq tk).length = 19 := by simp [pong]

theorem memRead_length {b : Bytes} {start n : Nat} (h : start + n ≤ b.length) : (memRead b start n).length = n := by
  simp [memRead]; omega

/-- A buffer that parses is exactly as long as its header declares (`44_framer.md` R124). -/
theorem parse_length {b p : Bytes} {h : Header} (hp : parse b = .ok (h, p)) :
    b.length = 19 + h.psize.toNat ∧ p.length = h.psize.toNat := by
  unfold parse at hp
  split at hp
  · cases hp
  · split at hp
    · cases hp
    · split at hp
      · cases hp
      · split at hp
        · cases hp
        · cases hp
          simp only [hdrLen, trlLen, ne_eq, not_not] at *
          exact ⟨by omega, memRead_length (by omega)⟩

/-! ### The CRC -/

/-- The incremental form (`41_crc32.md` R94). -/
theorem crcFold_append (acc : U32) (a b : Bytes) : crcFold acc (a ++ b) = crcFold (crcFold acc a) b := by
  simp [crcFold, List.foldl_append]

end Sys2Proof.Machine
end

