-- ==== Sys2Proof/Laws/PerInstr.lean ====
section
/-!
SUPPORT. Per instruction: its encoding matches its row of `spec/opcode_table.json` (`match` under `mask`, `30_encoding.md`
R67, R77).
-/

namespace Sys2Proof.Laws.EncodesItsRow

open Sys2Proof

/-- The row's `match`, of 16 or of 120 bits. -/
def rowMatch : Instr → Nat
  | .msgClientHello _ _ _ => 0xA35FC81D0100010000000000000000
  | .msgClientJoinRequest _ _ _ => 0xA35FC81D0100020000000000000000
  | .msgClientReady _ _ _ => 0xA35FC81D0100030000000000000000
  | .msgClientPing _ _ _ => 0xA35FC81D0100040000000000000000
  | .msgClientInput _ _ _ => 0xA35FC81D0100050000000000000000
  | .msgSnapshot _ _ _ => 0xA35FC81D0100140000000000000000
  | .msgLevelInit _ _ _ => 0xA35FC81D0100300000000000000000
  | .crcGen _ => 0x1000
  | .crcChk _ _ => 0x1100
  | .hdrEnc _ _ _ _ _ => 0x2000
  | .hdrDec _ => 0x2100
  | .frmAsm _ _ _ _ _ => 0x4000
  | .frmParse _ => 0x4100
  | .frmPong _ _ => 0x4200
  | .hsMsg _ _ _ _ => 0x5000
  | .hsQry _ => 0x5100
  | .hsRst _ => 0x5200
  | .hsTouch _ => 0x5300
  | .trkNext _ => 0x6000
  | .trkRst _ => 0x6100
  | .rxDgram _ _ => 0x7000

/-- The encoding of `i` agrees with its row's `match` under the row's `mask`. -/
def Statement (i : Instr) : Prop :=
  match encode i with
  | .command c => c.word &&& 0xFF00 = BitVec.ofNat 16 (rowMatch i)
  | .message _ v _ => v &&& 0xFFFFFFFFFF00FF0000000000000000 = BitVec.ofNat 120 (rowMatch i)

/-- A mask of two parts acts part by part. -/
theorem append_and_append {m n : Nat} (x x' : BitVec m) (y y' : BitVec n) :
    (x ++ y) &&& (x' ++ y') = (x &&& x') ++ (y &&& y') := by
  apply BitVec.eq_of_getLsbD_eq
  intro i hi
  simp only [BitVec.getLsbD_and, BitVec.getLsbD_append]
  split <;> rfl

/-- A header vector under the mask of the `HDR15` rows keeps `magic`, `version` and `messageType` only. -/
theorem masked_headerVector (m : MsgType) (f : MsgFields) (n : Nat)
    (h : (0xA35FC81D#32 ++ 1#8 ++ 0#8 ++ Machine.msgCode m ++ 0#16 ++ 0#32 ++ 0#16 : BitVec 120) = BitVec.ofNat 120 n) :
    headerVector m f &&& 0xFFFFFFFFFF00FF0000000000000000 = BitVec.ofNat 120 n := by
  rw [← h]
  change (0xA35FC81D#32 ++ 1#8 ++ f.ptype ++ Machine.msgCode m ++ f.seq ++ f.tick ++ f.psize :
      BitVec (32 + 8 + 8 + 8 + 16 + 32 + 16)) &&&
    (BitVec.allOnes 32 ++ BitVec.allOnes 8 ++ 0#8 ++ BitVec.allOnes 8 ++ 0#16 ++ 0#32 ++ 0#16) = _
  rw [append_and_append, append_and_append, append_and_append, append_and_append, append_and_append, append_and_append]
  simp only [BitVec.and_allOnes, BitVec.and_zero]

/-- A command word under the mask of the `CMD16` rows keeps `op` only. -/
theorem masked_commandWord (op : Byte) (sid : Sid) (n : Nat) (h : (op ++ 0#8 : BitVec 16) = BitVec.ofNat 16 n) :
    commandWord op sid &&& 0xFF00 = BitVec.ofNat 16 n := by
  rw [← h]
  change (op ++ sid : BitVec (8 + 8)) &&& (BitVec.allOnes 8 ++ 0#8) = _
  rw [append_and_append]
  simp only [BitVec.and_allOnes, BitVec.and_zero]

theorem msgClientHello (sid : Sid) (f : MsgFields) (p : Bytes) : Statement (.msgClientHello sid f p) :=
  masked_headerVector .clientHello f 0xA35FC81D0100010000000000000000 (by decide)
theorem msgClientJoinRequest (sid : Sid) (f : MsgFields) (p : Bytes) : Statement (.msgClientJoinRequest sid f p) :=
  masked_headerVector .clientJoinRequest f 0xA35FC81D0100020000000000000000 (by decide)
theorem msgClientReady (sid : Sid) (f : MsgFields) (p : Bytes) : Statement (.msgClientReady sid f p) :=
  masked_headerVector .clientReady f 0xA35FC81D0100030000000000000000 (by decide)
theorem msgClientPing (sid : Sid) (f : MsgFields) (p : Bytes) : Statement (.msgClientPing sid f p) :=
  masked_headerVector .clientPing f 0xA35FC81D0100040000000000000000 (by decide)
theorem msgClientInput (sid : Sid) (f : MsgFields) (p : Bytes) : Statement (.msgClientInput sid f p) :=
  masked_headerVector .clientInput f 0xA35FC81D0100050000000000000000 (by decide)
theorem msgSnapshot (sid : Sid) (f : MsgFields) (p : Bytes) : Statement (.msgSnapshot sid f p) :=
  masked_headerVector .snapshot f 0xA35FC81D0100140000000000000000 (by decide)
theorem msgLevelInit (sid : Sid) (f : MsgFields) (p : Bytes) : Statement (.msgLevelInit sid f p) :=
  masked_headerVector .levelInit f 0xA35FC81D0100300000000000000000 (by decide)
theorem crcGen (b : Bytes) : Statement (.crcGen b) := masked_commandWord 0x10 0 0x1000 (by decide)
theorem crcChk (b : Bytes) (e : U32) : Statement (.crcChk b e) := masked_commandWord 0x11 0 0x1100 (by decide)
theorem hdrEnc (pt mt : Byte) (sq tk ps : U32) : Statement (.hdrEnc pt mt sq tk ps) := masked_commandWord 0x20 0 0x2000 (by decide)
theorem hdrDec (b : Bytes) : Statement (.hdrDec b) := masked_commandWord 0x21 0 0x2100 (by decide)
theorem frmAsm (pt mt : Byte) (sq tk : U32) (b : Bytes) : Statement (.frmAsm pt mt sq tk b) := masked_commandWord 0x40 0 0x4000 (by decide)
theorem frmParse (b : Bytes) : Statement (.frmParse b) := masked_commandWord 0x41 0 0x4100 (by decide)
theorem frmPong (sq tk : U32) : Statement (.frmPong sq tk) := masked_commandWord 0x42 0 0x4200 (by decide)
theorem hsMsg (sid : Sid) (m : Byte) (sq tk : U32) : Statement (.hsMsg sid m sq tk) := masked_commandWord 0x50 sid 0x5000 (by decide)
theorem hsQry (sid : Sid) : Statement (.hsQry sid) := masked_commandWord 0x51 sid 0x5100 (by decide)
theorem hsRst (sid : Sid) : Statement (.hsRst sid) := masked_commandWord 0x52 sid 0x5200 (by decide)
theorem hsTouch (sid : Sid) : Statement (.hsTouch sid) := masked_commandWord 0x53 sid 0x5300 (by decide)
theorem trkNext (sid : Sid) : Statement (.trkNext sid) := masked_commandWord 0x60 sid 0x6000 (by decide)
theorem trkRst (sid : Sid) : Statement (.trkRst sid) := masked_commandWord 0x61 sid 0x6100 (by decide)
theorem rxDgram (sid : Sid) (b : Bytes) : Statement (.rxDgram sid b) := masked_commandWord 0x70 sid 0x7000 (by decide)

end Sys2Proof.Laws.EncodesItsRow
end

