-- ==== Sys2Proof/Tests/Slice0.lean ====
section
/-!
SUPPORT. The model's own tests. Expected values come from the encodings of `spec/30_encoding.md` and the vectors V<n> and
programs P<n> of `spec/95_test_vectors.md`. The hypotheses of the statements are met in `Tests/Witness.lean`.
-/

namespace Sys2Proof.Tests

open Sys2Proof Sys2Proof.Machine Sys2Proof.Safety

/-- Four slots, as the vectors of section 7 and the programs have them. -/
def four : State := State.resetWith ⟨4, 65554⟩

/-- The state a step or a meaning goes to. -/
def nextOf (o : Host.Outcome State Fault Refusal) : Option State :=
  match o with
  | .next t => some t
  | .fault _ => none
  | .refused _ => none

/-- The response it gives. -/
def respOf (o : Host.Outcome State Fault Refusal) : Option Response := (nextOf o).bind State.resp

/-- `OBUF` and status of the response. -/
def obufOf (o : Host.Outcome State Fault Refusal) : Option (Status × Bytes) := (respOf o).map fun r => (r.status, r.obuf)

/-- Slot `k` afterwards. -/
def slotOf (k : Sid) (o : Host.Outcome State Fault Refusal) : Option Slot := (nextOf o).bind fun t => t.slot? k

/-- `four` with slot 0 holding this record and these counters. -/
def fourWith (r : Session) (q : U16) (k : U32) : State := four.setSlot 0 ⟨r, q, k⟩

/-- V4-1, a `ClientHello` frame. -/
def hello : Bytes :=
  [0xA3, 0x5F, 0xC8, 0x1D, 0x01, 0x01, 0x01, 0x00, 0x00, 0x00, 0x00, 0x00, 0x00, 0x00, 0x00, 0x9D, 0x17, 0xF3, 0xAE]

/-- V4-4, a `ClientPing` frame. -/
def ping : Bytes :=
  [0xA3, 0x5F, 0xC8, 0x1D, 0x01, 0x01, 0x04, 0x12, 0x34, 0xDE, 0xAD, 0xBE, 0xEF, 0x00, 0x00, 0x4A, 0xA2, 0x89, 0xBA]

/-- V4-5, its pong. -/
def pongOfPing : Bytes :=
  [0xA3, 0x5F, 0xC8, 0x1D, 0x01, 0x02, 0x04, 0x12, 0x34, 0xDE, 0xAD, 0xBE, 0xEF, 0x00, 0x00, 0xA1, 0x95, 0x32, 0xB9]

/-- V5-1, a `ClientInput` frame with the payload DE AD BE EF. -/
def input : Bytes :=
  [0xA3, 0x5F, 0xC8, 0x1D, 0x01, 0x01, 0x05, 0xFF, 0xFF, 0xFF, 0xFF, 0xFF, 0xFF, 0x00, 0x04, 0xDE, 0xAD, 0xBE, 0xEF,
   0xE8, 0xF9, 0xD2, 0x9A]

/-- V4-11, a valid frame of the unregistered type `0x06`. -/
def unregistered : Bytes :=
  [0xA3, 0x5F, 0xC8, 0x1D, 0x01, 0x01, 0x06, 0x00, 0x00, 0x00, 0x00, 0x00, 0x00, 0x00, 0x00, 0xF9, 0x76, 0x9E, 0x67]

/-! ### Decoding: one word per row, written from its encoding string (R60, R66, R71, R73) -/

theorem test_decode_crcGen : decode (.command { word := 0b0001000001110111, ibuf := [0x61] }) = .ok (.crcGen [0x61]) := rfl
theorem test_decode_crcChk :
    decode (.command { word := 0b0001000100000000, args := { exp := 9 }, ibuf := [0x61] }) = .ok (.crcChk [0x61] 9) := rfl
theorem test_decode_hdrEnc :
    decode (.command ⟨0b0010000000000000, ⟨2, 0x14, 3, 4, 21, 7⟩, []⟩) = .ok (.hdrEnc 2 0x14 3 4 21) := rfl
theorem test_decode_hdrDec : decode (.command { word := 0b0010000100000001, ibuf := [0xA3] }) = .ok (.hdrDec [0xA3]) := rfl
theorem test_decode_frmAsm :
    decode (.command { word := 0b0100000000000000, args := { ptype := 1, mtype := 5, seq := 6, tick := 7 }, ibuf := [8] }) =
      .ok (.frmAsm 1 5 6 7 [8]) := rfl
theorem test_decode_frmParse : decode (.command { word := 0b0100000100000000, ibuf := [8] }) = .ok (.frmParse [8]) := rfl
theorem test_decode_frmPong :
    decode (.command { word := 0b0100001000000000, args := { seq := 6, tick := 7 } }) = .ok (.frmPong 6 7) := rfl
theorem test_decode_hsMsg :
    decode (.command { word := 0b0101000000000011, args := { mtype := 1, seq := 6, tick := 7 } }) = .ok (.hsMsg 3 1 6 7) := rfl
theorem test_decode_hsQry : decode (.command { word := 0b0101000110000000 }) = .ok (.hsQry 128) := rfl
theorem test_decode_hsRst : decode (.command { word := 0b0101001000000001 }) = .ok (.hsRst 1) := rfl
theorem test_decode_hsTouch : decode (.command { word := 0b0101001111111111 }) = .ok (.hsTouch 255) := rfl
theorem test_decode_trkNext : decode (.command { word := 0b0110000000000010 }) = .ok (.trkNext 2) := rfl
theorem test_decode_trkRst : decode (.command { word := 0b0110000100000010 }) = .ok (.trkRst 2) := rfl
theorem test_decode_rxDgram : decode (.command { word := 0b0111000000000001, ibuf := [8] }) = .ok (.rxDgram 1 [8]) := rfl
/-- V7-19: four reserved words. -/
theorem test_decode_reserved :
    [0x3000, 0x0000, 0xFF00, 0x1200].map (fun w => (decodeTableWord 16 w).isNone) = [true, true, true, true] := by decide

theorem test_decode_msgClientHello :
    decode (.message 1 0xA35FC81D0101011234DEADBEEF0001 [9]) = .ok (.msgClientHello 1 ⟨1, 0x1234, 0xDEADBEEF, 1⟩ [9]) := rfl
theorem test_decode_msgClientJoinRequest :
    decode (.message 1 0xA35FC81D0101020001000000020000 []) = .ok (.msgClientJoinRequest 1 ⟨1, 1, 2, 0⟩ []) := rfl
theorem test_decode_msgClientReady :
    decode (.message 1 0xA35FC81D01FF030001000000020000 []) = .ok (.msgClientReady 1 ⟨0xFF, 1, 2, 0⟩ []) := rfl
theorem test_decode_msgClientPing :
    decode (.message 1 0xA35FC81D0101040001000000020000 []) = .ok (.msgClientPing 1 ⟨1, 1, 2, 0⟩ []) := rfl
theorem test_decode_msgClientInput :
    decode (.message 1 0xA35FC81D0101050001000000020000 []) = .ok (.msgClientInput 1 ⟨1, 1, 2, 0⟩ []) := rfl
theorem test_decode_msgSnapshot :
    decode (.message 1 0xA35FC81D0102140001000000020000 []) = .ok (.msgSnapshot 1 ⟨2, 1, 2, 0⟩ []) := rfl
theorem test_decode_msgLevelInit :
    decode (.message 1 0xA35FC81D0102300001000000020000 []) = .ok (.msgLevelInit 1 ⟨2, 1, 2, 0⟩ []) := rfl
/-- R69: magic, version, the two lengths, the type, each rejected by its name. -/
theorem test_decode_message_rejects :
    decode (.message 0 0xA35FC81C0101010000000000000000 []) = .error .badMagic ∧
    decode (.message 0 0xA35FC81D0201010000000000000000 []) = .error .unsupportedVersion ∧
    decode (.message 0 0xA35FC81D0101010000000000000001 []) = .error .tooShort ∧
    decode (.message 0 0xA35FC81D0101010000000000000000 [1]) = .error .payloadSizeMismatch ∧
    decode (.message 0 0xA35FC81D0101060000000000000000 []) = .error .unknownMessageType := ⟨rfl, rfl, rfl, rfl, rfl⟩

/-! ### Well-formedness: each check refuses an ill-formed term (R41, R61) -/

theorem test_wf_input_too_long :
    (Instr.crcGen (List.replicate 20 0)).wellFormed ⟨1, 19⟩ = false ∧
    (Instr.crcGen (List.replicate 19 0)).wellFormed ⟨1, 19⟩ = true := by decide
theorem test_wf_frame_too_long :
    (Instr.frmAsm 1 1 0 0 [0]).wellFormed ⟨1, 19⟩ = false ∧ (Instr.frmAsm 1 1 0 0 []).wellFormed ⟨1, 19⟩ = true := by decide
theorem test_wf_declared_size :
    (Instr.msgClientHello 0 ⟨1, 0, 0, 2⟩ [7]).wellFormed ⟨1, 64⟩ = false ∧
    (Instr.msgClientHello 0 ⟨1, 0, 0, 1⟩ [7]).wellFormed ⟨1, 64⟩ = true := by decide
theorem test_wf_message_frame_too_long : (Instr.msgSnapshot 0 ⟨1, 0, 0, 1⟩ [7]).wellFormed ⟨1, 19⟩ = false := by decide
theorem test_config_legal :
    (⟨0, 19⟩ : Config).legal = false ∧ (⟨257, 19⟩ : Config).legal = false ∧ (⟨1, 18⟩ : Config).legal = false ∧
    Config.recommended.legal = true := by decide

/-! ### Checksum Unit -/

/-- V2-6, the check value. -/
theorem test_crcGen_check_value :
    (respOf (exec (.crcGen [0x31, 0x32, 0x33, 0x34, 0x35, 0x36, 0x37, 0x38, 0x39]) four)).map Response.crc =
      some (some 0xCBF43926) := by decide +kernel
/-- The trace of R98. -/
theorem test_crc_trace :
    (List.range 8).map (fun n => crcBits (n + 1) 0xFFFFFF9E) =
      [0x7FFFFFCF, 0xD2477CC7, 0x849B3D43, 0xAFF51D81, 0xBA420DE0, 0x5D2106F0, 0x2E908378, 0x174841BC] := by decide +kernel
/-- V2-12, V2-13. -/
theorem test_crcChk :
    (respOf (exec (.crcChk [0x61, 0x62, 0x63] 0x352441C2) four)).map Response.ok = some (some true) ∧
    (respOf (exec (.crcChk [0x61, 0x62, 0x63] 0x352441C3) four)).map Response.ok = some (some false) := by decide +kernel

/-! ### Header Codec -/

/-- V3-6: masking. -/
theorem test_hdrEnc_masks :
    obufOf (exec (.hdrEnc 0x01 0x01 0x12345 0xFFFFFFFF 0x1FFFF) four) =
      some (.ok, [0xA3, 0x5F, 0xC8, 0x1D, 0x01, 0x01, 0x01, 0x23, 0x45, 0xFF, 0xFF, 0xFF, 0xFF, 0xFF, 0xFF]) := by decide
/-- V3-19: extra bytes ignored, no check of type or direction. -/
theorem test_hdrDec_fields :
    (respOf (exec (.hdrDec [0xA3, 0x5F, 0xC8, 0x1D, 0x01, 0xFF, 0xEE, 0x80, 0x00, 0x80, 0x00, 0x00, 0x00, 0x01, 0x00, 0xAA,
      0xBB]) four)).map Response.hdr = some (some ⟨0xA35FC81D, 1, 0xFF, 0xEE, 32768, 2147483648, 256⟩) := by decide +kernel
/-- V3-13, V3-16, V3-17: the order of the tests. -/
theorem test_hdrDec_priority :
    [[0x00, 0x00, 0x00, 0x00],
     [0x00, 0x5F, 0xC8, 0x1D, 0x02, 0x02, 0x14, 0x00, 0x01, 0x00, 0x00, 0x00, 0x01, 0x00, 0x15],
     [0xA3, 0x5F, 0xC8, 0x1D, 0x02, 0x02, 0x14, 0x00, 0x01, 0x00, 0x00, 0x00, 0x01, 0x00, 0x15]].map
      (fun b => (respOf (exec (.hdrDec b) four)).map Response.status) =
      [some .tooShort, some .badMagic, some .unsupportedVersion] := by decide +kernel

/-! ### Framer -/

/-- V5-1. -/
theorem test_frmAsm : obufOf (exec (.frmAsm 0x01 0x05 0xFFFF 0xFFFFFFFF [0xDE, 0xAD, 0xBE, 0xEF]) four) = some (.ok, input) := by
  decide +kernel
/-- V5-1 back. -/
theorem test_frmParse :
    respOf (exec (.frmParse input) four) =
      some { status := .ok, hdr := some ⟨0xA35FC81D, 1, 1, 5, 65535, 4294967295, 4⟩, obuf := [0xDE, 0xAD, 0xBE, 0xEF] } := by
  decide +kernel
/-- V5-8, V5-10, V5-17. -/
theorem test_frmParse_errors :
    [hello.take 18, hello ++ [0], hello.take 18 ++ [0xAF]].map (fun b => obufOf (exec (.frmParse b) four)) =
      [some (.tooShort, []), some (.payloadSizeMismatch, []), some (.checksumMismatch, [])] := by decide +kernel
/-- V4-5. -/
theorem test_frmPong : obufOf (exec (.frmPong 0x1234 0xDEADBEEF) four) = some (.ok, pongOfPing) := by decide +kernel

/-! ### Handshake -/

/-- V6-1, J, R, H: the last message moves the state three places. -/
theorem test_hsMsg_cascade :
    (slotOf 0 (exec (.hsMsg 0 0x01 0 0) (fourWith ⟨.awaitingHello, false, true, true⟩ 5 6))) =
      some ⟨⟨.established, true, true, true⟩, 5, 6⟩ := by decide
/-- V6-3: a ping and a foreign type leave the record. -/
theorem test_hsMsg_ping :
    respOf (exec (.hsMsg 0 0x04 0x1234 0xDEADBEEF) (fourWith ⟨.awaitingHello, false, true, true⟩ 5 6)) =
      some { status := .ok, kind := some .pong, hsreg := some 0x18, est := some false, obuf := pongOfPing } := by
  decide +kernel
/-- V6-4: Established. -/
theorem test_hsQry :
    respOf (exec (.hsQry 0) (fourWith ⟨.established, true, true, true⟩ 5 6)) =
      some { status := .ok, hsreg := some 0x1F, est := some true } := by decide
/-- P4: `HS.RST` keeps the counters. -/
theorem test_hsRst :
    slotOf 0 (exec (.hsRst 0) (fourWith ⟨.established, true, true, true⟩ 5 6)) =
      some ⟨⟨.awaitingHello, false, false, false⟩, 5, 6⟩ := by decide
/-- V6-4: one event, no state. -/
theorem test_hsTouch :
    (nextOf (exec (.hsTouch 3) four)).map (fun t => (t.events, decide (t.slots = four.slots))) = some ([⟨3⟩], true) := by
  decide
/-- P4: slot 4 of four. -/
theorem test_badSession :
    [Instr.hsMsg 4 1 0 0, .hsQry 4, .hsRst 4, .hsTouch 4, .trkNext 4, .trkRst 4, .rxDgram 255 [0]].map
      (fun i => (respOf (exec i four)).map Response.status) = List.replicate 7 (some .badSession) := by decide

/-! ### Tracker -/

/-- V7-3: the two counters wrap independently. -/
theorem test_trkNext :
    slotOf 0 (exec (.trkNext 0) (fourWith Session.fresh 5 4294967295)) = some ⟨Session.fresh, 6, 0⟩ ∧
    respOf (exec (.trkNext 0) (fourWith Session.fresh 5 4294967295)) =
      some { status := .ok, seq := some 5, tick := some 4294967295 } := by decide
/-- V7-4, the record kept. -/
theorem test_trkRst :
    slotOf 0 (exec (.trkRst 0) (fourWith ⟨.awaitingJoin, true, false, false⟩ 6 7)) =
      some ⟨⟨.awaitingJoin, true, false, false⟩, 0, 0⟩ := by decide

/-! ### The inbound path -/

/-- V7-5. -/
theorem test_rxDgram_hello :
    respOf (exec (.rxDgram 0 hello) four) =
      some { status := .ok, hdr := some ⟨0xA35FC81D, 1, 1, 1, 0, 0, 0⟩, kind := some .handshake, hsreg := some 0x05,
             est := some false } := by decide +kernel
/-- V7-6, V7-7, V7-10. -/
theorem test_rxDgram_others :
    [ping, input, unregistered].map (fun b => obufOf (exec (.rxDgram 0 b) four)) =
      [some (.ok, pongOfPing), some (.ok, [0xDE, 0xAD, 0xBE, 0xEF]), some (.unknownMessageType, [])] := by decide +kernel
/-- R148, one row a message: from `0x15`, H, J, R. -/
theorem test_msg_handshake :
    [Instr.msgClientHello 0 ⟨1, 0, 0, 0⟩ [], .msgClientJoinRequest 0 ⟨1, 0, 0, 0⟩ [], .msgClientReady 0 ⟨1, 0, 0, 0⟩ []].map
      (fun i => (respOf (exec i (fourWith ⟨.awaitingJoin, true, false, true⟩ 0 0))).map Response.hsreg) =
      [some (some 0x15), some (some 0x1F), some (some 0x15)] := by decide
/-- V7-16: a ping's payload is not echoed. -/
theorem test_msgClientPing :
    obufOf (exec (.msgClientPing 0 ⟨1, 0x1234, 0xDEADBEEF, 3⟩ [1, 2, 3]) four) = some (.ok, pongOfPing) := by decide +kernel
/-- V7-7 to V7-9: the three types without a codec, their codes in `hdr`. -/
theorem test_msg_deliver :
    [Instr.msgClientInput 0 ⟨1, 2, 3, 1⟩ [9], .msgSnapshot 0 ⟨1, 2, 3, 1⟩ [9], .msgLevelInit 0 ⟨1, 2, 3, 1⟩ [9]].map
      (fun i => (respOf (exec i four)).map fun r => (r.kind, r.obuf, r.hdr.map Header.mtype)) =
      [some (some .deliver, [9], some 0x05), some (some .deliver, [9], some 0x14), some (some .deliver, [9], some 0x30)] := by
  decide

/-! ### The step -/

/-- V7-19, V7-20: a reserved word; `CRC.GEN` with an ignored `sid`. -/
theorem test_step_words :
    [0x3000, 0x0000, 0xFF00, 0x1200].map (fun w => obufOf (step (four.withFetchWord 16 w))) =
      List.replicate 4 (some (.badCommand, [])) ∧
    (respOf (step { four with script := [.command { word := 0x1077, ibuf := [0x61, 0x62, 0x63] }] })).map Response.crc =
      some (some 0x352441C2) := by decide +kernel
/-- A table row of a message runs as the first instruction after reset. -/
theorem test_step_message_row :
    slotOf 0 (step (State.reset.withFetchWord 120 0xA35FC81D0100010000000000000000)) =
      some ⟨⟨.awaitingJoin, true, false, false⟩, 0, 0⟩ := by decide +kernel
/-- `RESET` (R195). -/
theorem test_step_reset :
    nextOf (step { fourWith ⟨.established, true, true, true⟩ 5 6 with script := [.reset] }) = some four := by decide

end Sys2Proof.Tests
end

