-- ==== Sys2Proof/Tests/Witness.lean ====
section
/-!
SUPPORT. For every statement of `Certificates/Slice0/Obligations.lean` that has hypotheses, concrete states and operands
that meet them together, each clause at a boundary of its range.
-/

namespace Sys2Proof.Tests

open Sys2Proof Sys2Proof.Machine Sys2Proof.Safety

/-- One slot and the smallest legal `BUF_MAX`. -/
def least : State := State.resetWith ⟨1, 19⟩

/-- Buffers up to 64 bytes, two slots. -/
def tiny : State := State.resetWith ⟨2, 64⟩

/-- A meaning whose next state is computed answers that next state. -/
theorem next_of_nextOf {o : Host.Outcome State Fault Refusal} {t : State} (h : nextOf o = some t) : o = .next t := by
  cases o with
  | next s => cases h; rfl
  | fault f => cases f
  | refused r => cases h

/-- The response of `FRM.PARSE` on the frame `hello`. -/
def helloParsed : Response := { status := .ok, hdr := some ⟨0xA35FC81D, 1, 1, 1, 0, 0, 0⟩, obuf := [] }

theorem frmParse_hello : exec (.frmParse hello) least = .next (least.answer helloParsed []) :=
  next_of_nextOf (by decide +kernel)

theorem witness_CrcGenAnswersTheChecksum :
    (List.replicate 19 (0 : Byte)).length ≤ least.bufMax ∧ (0 : Byte) ≠ 255 := by decide
theorem witness_CrcChkComparesAndNeverFails : (List.replicate 19 (0 : Byte)).length ≤ least.bufMax := by decide
theorem witness_HdrEncPacksFifteenBytes : 15 ≤ ({ least with bufMax := 15 } : State).bufMax := by decide
theorem witness_HdrDecTestsThenReturnsSevenFields :
    hello.length ≤ least.bufMax ∧ (hello.take 14).length < 15 ∧ headerVerdict hello = .ok := by decide +kernel
theorem witness_FrmAsmComposesTheFrame :
    (List.replicate 45 (0 : Byte)).length + 19 ≤ tiny.bufMax ∧ ([] : Bytes).length + 19 ≤ least.bufMax := by decide
theorem witness_FrmParseValidatesThenSplits :
    hello.length ≤ least.bufMax ∧ frameVerdict hello = .ok ∧ frameVerdict (hello.take 18) = .tooShort ∧
    frameVerdict (hello ++ [0]) = .payloadSizeMismatch := by decide +kernel
theorem witness_FrmPongIsTheEmptyServerPing : 19 ≤ least.bufMax := by decide
theorem witness_HsMsgTransitions : least.slot? 0 = some Slot.fresh ∧ 19 ≤ least.bufMax := by decide

/-- The two clauses of `HsQryReportsTheRecord`, `HsRstFreshensTheRecordOnly`, `HsTouchAloneEmitsActivity`,
`TrkNextStampsThenIncrements` and `TrkRstZeroesTheCountersOnly` where they meet: slot 1 is the last, slot 2 the first absent. -/
theorem witness_slot_clauses :
    tiny.slots.length ≤ (2 : Sid).toNat ∧ tiny.slot? 1 = some Slot.fresh ∧ ¬ tiny.slots.length ≤ (1 : Sid).toNat := by decide
theorem witness_HsQryReportsTheRecord : tiny.slots.length ≤ (2 : Sid).toNat ∧ tiny.slot? 1 = some Slot.fresh := by decide
theorem witness_HsRstFreshensTheRecordOnly : tiny.slots.length ≤ (2 : Sid).toNat ∧ tiny.slot? 1 = some Slot.fresh := by decide
theorem witness_TrkNextStampsThenIncrements : tiny.slots.length ≤ (2 : Sid).toNat ∧ tiny.slot? 1 = some Slot.fresh := by decide
theorem witness_TrkRstZeroesTheCountersOnly : tiny.slots.length ≤ (2 : Sid).toNat ∧ tiny.slot? 1 = some Slot.fresh := by decide
theorem witness_HsTouchAloneEmitsActivity :
    tiny.slots.length ≤ (2 : Sid).toNat ∧ tiny.slot? 1 = some Slot.fresh ∧
    ∃ t : State, exec (.hsTouch 1) tiny = .next t ∧ t.events ≠ [] := ⟨by decide, rfl, _, rfl, by decide⟩

/-- Each arm of `RX.DGRAM`, and the absent slot. -/
theorem witness_RxDgramValidatesThenDispatches :
    least.slots.length ≤ (1 : Sid).toNat ∧ least.slot? 0 = some Slot.fresh ∧ 19 ≤ least.bufMax ∧
    hello.length ≤ least.bufMax ∧ input.length ≤ tiny.bufMax ∧
    [hello, ping, input, unregistered].map (fun b => (frameVerdict b, (headerAt b).mtype)) =
      [(.ok, 0x01), (.ok, 0x04), (.ok, 0x05), (.ok, 0x06)] ∧
    frameVerdict (hello.take 18) = .tooShort := by decide +kernel
theorem witness_HandshakeMessagesStepTheirSlot :
    least.slot? 0 = some Slot.fresh ∧ ([] : Bytes).length + 19 ≤ least.bufMax := by decide
theorem witness_PingMessageIsAnsweredByItsPong :
    least.slot? 0 = some Slot.fresh ∧ ([] : Bytes).length + 19 ≤ least.bufMax := by decide
theorem witness_OtherMessagesAreDelivered :
    tiny.slot? 1 = some Slot.fresh ∧ (List.replicate 45 (0 : Byte)).length + 19 ≤ tiny.bufMax := by decide
theorem witness_RxDgramRunsTheMessageOfItsFrame :
    hello.length ≤ least.bufMax ∧ frameVerdict hello = .ok ∧
    decode (.message 0 (headerVectorAt hello) (payloadAt hello)) = .ok (.msgClientHello 0 ⟨1, 0, 0, 0⟩ []) ∧
    ({ least with script := [.command ⟨commandWord 0x70 0, {}, hello⟩, .reset] } : State).script =
      .command ⟨commandWord 0x70 0, {}, hello⟩ :: [.reset] :=
  ⟨by decide, by decide +kernel, by decide +kernel, rfl⟩
theorem witness_BadSessionBeforeEveryOtherTest :
    instrSlot (.rxDgram 1 [0]) = some 1 ∧ instrFits least.config (.rxDgram 1 [0]) = true ∧
    least.slots.length ≤ (1 : Sid).toNat ∧ State.reset.slots.length = 256 := by decide +kernel
theorem witness_ErrorsLeaveNoTrace :
    ∃ (t : State) (r : Response), exec (.hsQry 1) least = .next t ∧ t.resp = some r ∧ r.status ≠ .ok :=
  ⟨_, errorResponse .badSession, rfl, rfl, by decide⟩
theorem witness_FailedCommandIsAsIfNeverIssued :
    ∃ (t : State) (r : Response), exec (.frmParse []) least = .next t ∧ t.resp = some r ∧ r.status ≠ .ok :=
  ⟨_, errorResponse .tooShort, rfl, rfl, by decide⟩
theorem witness_AcceptedExactlyWhenItFits :
    19 ≤ least.bufMax ∧ instrFits least.config (.crcGen (List.replicate 19 0)) = true ∧
    instrFits least.config (.crcGen (List.replicate 20 0)) = false ∧ instrFits least.config (.frmAsm 1 1 0 0 [0]) = false := by
  decide
theorem witness_PureCommandsIgnoreTheState :
    instrSlot (.hdrDec []) = none ∧ (State.resetWith ⟨3, 19⟩).bufMax = least.bufMax ∧
    (∃ t : State, exec (.hdrDec []) least = .next t) ∧
    (∃ s' : State, s' ≠ tiny ∧ (s'.slot? 1).map Slot.hs = (tiny.slot? 1).map Slot.hs) ∧
    (least.slot? 2).map Slot.hs = (tiny.slot? 2).map Slot.hs :=
  ⟨rfl, rfl, ⟨_, rfl⟩, ⟨tiny.setSlot 1 ⟨Session.fresh, 7, 7⟩, by decide, rfl⟩, rfl⟩
theorem witness_OtherSlotsAreUntouched :
    ∃ t : State, exec (.trkNext 0) tiny = .next t ∧ instrSlot (.trkNext 0) ≠ some 1 := ⟨_, rfl, by decide⟩
theorem witness_OtherSlotsAreUnobservable :
    instrSlot (.trkNext 0) = some 0 ∧ (tiny.setSlot 1 ⟨Session.fresh, 7, 7⟩).bufMax = tiny.bufMax ∧
    (tiny.setSlot 1 ⟨Session.fresh, 7, 7⟩).slot? 0 = tiny.slot? 0 ∧ ∃ t : State, exec (.trkNext 0) tiny = .next t :=
  ⟨rfl, rfl, rfl, _, rfl⟩
theorem witness_StateHasOnlyItsNamedWriters :
    (∃ (t : State) (sl' : Slot), exec (.hsMsg 0 0x02 0 0) tiny = .next t ∧ tiny.slot? 0 = some Slot.fresh ∧
      t.slot? 0 = some sl' ∧ sl'.hs ≠ Slot.fresh.hs) ∧
    (∃ (t : State) (sl' : Slot), exec (.trkNext 0) tiny = .next t ∧ tiny.slot? 0 = some Slot.fresh ∧
      t.slot? 0 = some sl' ∧ sl'.seq ≠ Slot.fresh.seq) :=
  ⟨⟨_, ⟨⟨.awaitingHello, false, true, false⟩, 0, 0⟩, rfl, rfl, rfl, by decide⟩,
   ⟨_, ⟨Session.fresh, 1, 1⟩, rfl, rfl, rfl, by decide⟩⟩
theorem witness_FlagsAndStateOnlyRise :
    ∃ (t : State) (sl' : Slot), Instr.hsMsg 0 0x01 0 0 ≠ .hsRst 0 ∧ exec (.hsMsg 0 0x01 0 0) tiny = .next t ∧
      tiny.slot? 0 = some Slot.fresh ∧ t.slot? 0 = some sl' :=
  ⟨_, ⟨⟨.awaitingJoin, true, false, false⟩, 0, 0⟩, by decide, rfl, rfl, rfl⟩
theorem witness_EstablishedExactlyWhenAllThreeArrived :
    least.slot? 0 = some Slot.fresh ∧ Slot.fresh.hs = ⟨.awaitingHello, false, false, false⟩ ∧ 19 ≤ least.bufMax := by decide
theorem witness_TrackerCountsItsCalls :
    (tiny.setSlot 1 ⟨Session.fresh, 65535, 4294967295⟩).slot? 1 = some ⟨Session.fresh, 65535, 4294967295⟩ := by decide
theorem witness_CrcDetectsEverySingleBitError :
    7 < 8 * ([0] : Bytes).length ∧ 15 < 8 * ([1, 2] : Bytes).length ∧ 7 % 8 = 15 % 8 ∧
    ([0] : Bytes).length - 7 / 8 = ([1, 2] : Bytes).length - 15 / 8 := by decide
theorem witness_HeaderRoundTrip : 15 ≤ ({ least with bufMax := 15 } : State).bufMax := by decide
theorem witness_HeaderRoundTripConverse :
    ∃ (t : State) (h : Header), (hello.take 15).length = 15 ∧ 15 ≤ least.bufMax ∧
      exec (.hdrDec (hello.take 15)) least = .next t ∧ t.resp = some { status := .ok, hdr := some h } :=
  ⟨least.answer { status := .ok, hdr := some ⟨0xA35FC81D, 1, 1, 1, 0, 0, 0⟩ } [], _, by decide, by decide,
   next_of_nextOf (by decide +kernel), rfl⟩
theorem witness_FrameRoundTrip :
    (List.replicate 65535 (0 : Byte)).length ≤ 65535 ∧
    (List.replicate 65535 (0 : Byte)).length + 19 ≤ State.reset.bufMax := by
  rw [List.length_replicate]; decide
theorem witness_FrameRoundTripConverse :
    ∃ (t : State) (h : Header) (P : Bytes), exec (.frmParse hello) least = .next t ∧
      t.resp = some { status := .ok, hdr := some h, obuf := P } := ⟨_, _, _, frmParse_hello, rfl⟩
theorem witness_EverySingleBitFlipIsRejected :
    ∃ (t : State) (r : Response), exec (.frmParse hello) least = .next t ∧ t.resp = some r ∧ r.status = .ok ∧
      151 < 8 * hello.length := ⟨_, _, frmParse_hello, rfl, rfl, by decide⟩
theorem witness_CutAndExtendedFramesAreRejected :
    ∃ (t : State) (r : Response), exec (.frmParse hello) { least with bufMax := 20 } = .next t ∧ t.resp = some r ∧
      r.status = .ok ∧ 18 < hello.length ∧ ([0] : Bytes) ≠ [] ∧
      hello.length + ([0] : Bytes).length ≤ ({ least with bufMax := 20 } : State).bufMax :=
  ⟨State.answer { least with bufMax := 20 } helloParsed [], _, next_of_nextOf (by decide +kernel), rfl, rfl, by decide,
   by decide, by decide⟩
theorem witness_OverlongPayloadsCannotBeParsed :
    65535 < (List.replicate 65536 (0 : Byte)).length ∧
    (List.replicate 65536 (0 : Byte)).length + 19 ≤ (State.resetWith ⟨1, 65555⟩).bufMax := by
  rw [List.length_replicate]; decide
theorem witness_RxDgramIsParseThenTransition :
    least.slot? 0 = some Slot.fresh ∧
    ∀ B ∈ [hello, ping], B.length ≤ least.bufMax ∧ frameVerdict B = .ok ∧
      (headerAt B).mtype ∈ ([0x01, 0x02, 0x03, 0x04] : List Byte) := by decide +kernel
theorem witness_DifferentSlotsCommute :
    (∀ a b : Sid, instrSlot (.trkNext 0) = some a → instrSlot (.hsMsg 1 1 0 0) = some b → a ≠ b) ∧
    ∃ t u : State, exec (.trkNext 0) tiny = .next t ∧ exec (.hsMsg 1 1 0 0) t = .next u :=
  ⟨by rintro _ _ ⟨⟩ ⟨⟩; decide, _, _, rfl, rfl⟩
theorem witness_PerSlotResetsAmountToReset : State.reset.slots.length ≤ 256 := by decide +kernel
theorem witness_StepRunsTheDecodedCommand :
    ({ least with script := [.command { word := 0x6000 }] } : State).script = .command { word := 0x6000 } :: [] ∧
    ({ word := 0x6000 } : Command).ibuf.length ≤ least.bufMax ∧ decode (.command { word := 0x6000 }) = .ok (.trkNext 0) :=
  ⟨rfl, by decide, rfl⟩
theorem witness_ReservedOpcodesAnswerBadCommand :
    ({ least with script := [.command { word := 0x3000 }] } : State).script = .command { word := 0x3000 } :: [] ∧
    ({ word := 0x3000 } : Command).ibuf.length ≤ least.bufMax ∧ opField ({ word := 0x3000 } : Command).word ∉ opCodes :=
  ⟨rfl, by decide, by decide⟩
theorem witness_StepRefusesOverlongInputAndIdles :
    ({ least with script := [.command ⟨0x2000, {}, List.replicate 20 0⟩] } : State).script =
      .command ⟨0x2000, {}, List.replicate 20 0⟩ :: [] ∧
    least.bufMax < (⟨0x2000, {}, List.replicate 20 0⟩ : Command).ibuf.length ∧ least.script = [] :=
  ⟨rfl, by decide, rfl⟩
theorem witness_ResetFreshensEverySlot :
    ({ least with script := [.reset] } : State).script = .reset :: [] := rfl
theorem witness_StepKeepsTheInvariant :
    stateInv { tiny with script := [.command { word := 0x6001 }] } = true ∧
    ∃ t : State, step { tiny with script := [.command { word := 0x6001 }] } = .next t := ⟨by decide, _, rfl⟩
theorem witness_DecodeEncodeRoundTrip :
    (Instr.msgSnapshot 0 ⟨2, 1, 1, 1⟩ [9]).wellFormed ⟨1, 20⟩ = true ∧ (Instr.trkRst 255).wellFormed ⟨1, 19⟩ = true := by decide
theorem witness_DecodedMessagesEncodeBack :
    decode (.message 0 0xA35FC81D0102140001000000010001 [9]) = .ok (.msgSnapshot 0 ⟨2, 1, 1, 1⟩ [9]) := rfl
theorem witness_OpcodesDecodeAndUnusedSlotIsIgnored :
    opField ({ word := 0x7100 } : Command).word ∉ opCodes ∧ (0x10 : Byte) ∉ sessionOpCodes ∧
    opField ({ word := 0x7000 } : Command).word ∈ opCodes := by decide

end Sys2Proof.Tests
end

/-! ### How a step takes up a command (`00_scope.md` R6, `20_memory.md` R51) -/

namespace Sys2Proof.Machine

/-- The command at the head of the script leaves it and is run in the state without it (log 2). -/
theorem step_of_script_command {s : State} {c : Command} {rest : List HostInput}
    (hscript : s.script = .command c :: rest) : step s = runCommand c { s with script := rest } := by
  rw [step, runInput, hscript]

/-- Past R41's test of `IBUF`, a command has the meaning of the instruction it decodes to. -/
theorem runCommand_of_decode_ok {s : State} {c : Command} {i : Instr} (hfits : c.ibuf.length ≤ s.bufMax)
    (hdecode : decode (.command c) = .ok i) : runCommand c s = exec i s := by
  rw [runCommand, State.withInput_fits hfits, hdecode]

/-- Settles O45: taking the command off the script leaves `BUF_MAX` as it was, so R41's test passes in the state the
command runs in. -/
theorem stepRunsTheDecodedCommand : Obligations.StepRunsTheDecodedCommand := by
  intro s c rest i hscript hfits hdecode
  have hfits' : c.ibuf.length ≤ ({ s with script := rest } : State).bufMax := hfits
  calc step s = runCommand c { s with script := rest } := step_of_script_command hscript
    _ = exec i { s with script := rest } := runCommand_of_decode_ok hfits' hdecode

end Sys2Proof.Machine

namespace Sys2Proof.Machine
open Sys2Proof.Safety

/-! ### Reading a received frame as numbers (`00_scope.md` R12, `20_memory.md` R44) -/

theorem toNat_append_byte {n : Nat} (hi : BitVec n) (lo : Byte) : (hi ++ lo).toNat = hi.toNat * 256 + lo.toNat := by
  rw [BitVec.toNat_append, ← Nat.shiftLeft_add_eq_or_of_lt lo.isLt, Nat.shiftLeft_eq]

theorem memRead_succ {b : Bytes} {start n : Nat} (h : start < b.length) :
    memRead b start (n + 1) = b.getD start 0 :: memRead b (start + 1) n := by
  simp only [memRead, List.drop_eq_getElem_cons h, List.take_succ_cons, List.getD_eq_getElem _ _ h]

/-- Two bytes inside the buffer, read as a field and as a number. -/
theorem unbe16_memRead {b : Bytes} {start : Nat} (h : start + 2 ≤ b.length) :
    (unbe16 (memRead b start 2)).toNat = numberAt b start 2 := by
  rw [memRead_succ (by omega), memRead_succ (by omega)]
  simp [memRead, unbe16, numberAt, -BitVec.toNat_append, toNat_append_byte]

/-- Four bytes inside the buffer, read as a field and as a number. -/
theorem unbe32_memRead {b : Bytes} {start : Nat} (h : start + 4 ≤ b.length) :
    (unbe32 (memRead b start 4)).toNat = numberAt b start 4 := by
  rw [memRead_succ (by omega), memRead_succ (by omega), memRead_succ (by omega), memRead_succ (by omega)]
  simp [memRead, unbe32, numberAt, -BitVec.toNat_append, toNat_append_byte]

theorem unbe16_memRead_eq_ofNat {b : Bytes} {start : Nat} (h : start + 2 ≤ b.length) :
    unbe16 (memRead b start 2) = BitVec.ofNat 16 (numberAt b start 2) := by
  rw [← unbe16_memRead h, BitVec.ofNat_toNat, BitVec.setWidth_eq]

theorem unbe32_memRead_eq_ofNat {b : Bytes} {start : Nat} (h : start + 4 ≤ b.length) :
    unbe32 (memRead b start 4) = BitVec.ofNat 32 (numberAt b start 4) := by
  rw [← unbe32_memRead h, BitVec.ofNat_toNat, BitVec.setWidth_eq]

theorem numberAt_one (b : Bytes) (start : Nat) : numberAt b start 1 = (memByte b start).toNat := by
  simp [numberAt, memByte]

/-- The fields the codec reads are the ones the statements place at the offsets of R60. -/
theorem headerFields_eq_headerAt {b : Bytes} (h : 15 ≤ b.length) : headerFields b = headerAt b := by
  simp (disch := omega) only [headerFields, headerAt, declaredSize, memByte, unbe16_memRead_eq_ofNat,
    unbe32_memRead_eq_ofNat]

/-- What `HDR.DEC`'s tests have established of a buffer they accept (`42_header_codec.md` R104). -/
theorem decodeHeader_ok {b : Bytes} {h : Header} (hd : decodeHeader b = .ok h) :
    15 ≤ b.length ∧ memRead b 0 4 = magicBytes ∧ memByte b 4 = versionByte ∧ h = headerFields b := by
  unfold decodeHeader at hd
  split at hd
  · cases hd
  next hlen =>
    split at hd
    · cases hd
    next hmagic =>
      split at hd
      · cases hd
      next hversion =>
        cases hd
        exact ⟨not_lt.mp hlen, not_not.mp hmagic, not_not.mp hversion, rfl⟩

theorem headerVerdict_of_decodeHeader_ok {b : Bytes} {h : Header} (hd : decodeHeader b = .ok h) :
    headerVerdict b = .ok := by
  obtain ⟨hlen, hmagic, hversion, -⟩ := decodeHeader_ok hd
  have hmagicNumber : numberAt b 0 4 = 0xA35FC81D := by rw [← unbe32_memRead (by omega), hmagic]; decide
  have hversionNumber : numberAt b 4 1 = 1 := by rw [numberAt_one, hversion]; rfl
  simp [headerVerdict, hmagicNumber, hversionNumber, hlen]

/-- A datagram `parse` accepts passes every test of R124 as the statements write them, and its header is the one at the
offsets of R60. -/
theorem frameVerdict_of_parse_ok {b p : Bytes} {h : Header} (hp : parse b = .ok (h, p)) :
    frameVerdict b = .ok ∧ h = headerAt b := by
  unfold parse at hp
  split at hp
  · cases hp
  next h' hd =>
    split at hp
    · cases hp
    next hshort =>
      split at hp
      · cases hp
      next hlong =>
        split at hp
        · cases hp
        next hcrc =>
          cases hp
          obtain ⟨hlen, -, -, rfl⟩ := decodeHeader_ok hd
          have hsize : (headerFields b).psize.toNat = declaredSize b := unbe16_memRead (by omega)
          have hlength : b.length = 19 + declaredSize b := by
            simp only [hdrLen, trlLen] at hlong; omega
          have hchecksum : numberAt b (b.length - 4) 4 = (crc32 (b.take (b.length - 4))).toNat := by
            rw [← unbe32_memRead (by omega)]
            exact congrArg BitVec.toNat (not_not.mp hcrc).symm
          refine ⟨?_, headerFields_eq_headerAt hlen⟩
          simp [frameVerdict, headerVerdict_of_decodeHeader_ok hd, hchecksum, ← hlength]

/-! ### What an instruction can do to the state -/

/-- The instruction brings a handshake message of type `m` to slot `sid`: the command `HS.MSG`, a valid datagram
(`46_tracker_rx.md` R161 a), or a message row (log 4). -/
inductive BringsHandshake : Instr → Sid → Byte → Prop where
  | hsMsg {sid : Sid} {m : Byte} (q u : U32) (hm : m ∈ ([0x01, 0x02, 0x03] : List Byte)) :
    BringsHandshake (.hsMsg sid m q u) sid m
  | rxDgram {sid : Sid} {B : Bytes} (hvalid : frameVerdict B = .ok)
    (hm : (headerAt B).mtype ∈ ([0x01, 0x02, 0x03] : List Byte)) :
    BringsHandshake (.rxDgram sid B) sid (headerAt B).mtype
  | msgClientHello (sid : Sid) (f : MsgFields) (P : Bytes) :
    BringsHandshake (.msgClientHello sid f P) sid (msgCode .clientHello)
  | msgClientJoinRequest (sid : Sid) (f : MsgFields) (P : Bytes) :
    BringsHandshake (.msgClientJoinRequest sid f P) sid (msgCode .clientJoinRequest)
  | msgClientReady (sid : Sid) (f : MsgFields) (P : Bytes) :
    BringsHandshake (.msgClientReady sid f P) sid (msgCode .clientReady)

/-- `SlotWrite i sid sl sl'`: the instruction `i` writes `sl'` over `sl` in slot `sid`. These are the writers that R23 and
R29 of `10_state.md` name. -/
inductive SlotWrite : Instr → Sid → Slot → Slot → Prop where
  | handshake {i : Instr} {sid : Sid} {m : Byte} (sl : Slot) (hm : BringsHandshake i sid m) :
    SlotWrite i sid sl { sl with hs := hsStep sl.hs m }
  | hsRst (sid : Sid) (sl : Slot) : SlotWrite (.hsRst sid) sid sl { sl with hs := Session.fresh }
  | trkNext (sid : Sid) (sl : Slot) : SlotWrite (.trkNext sid) sid sl { sl with seq := sl.seq + 1, tick := sl.tick + 1 }
  | trkRst (sid : Sid) (sl : Slot) : SlotWrite (.trkRst sid) sid sl { sl with seq := seqReset, tick := tickReset }

/-- `Effect i s t`: the instruction `i` may take `s` to `t`, by a legal answer alone, or by one write of an existing slot
and a legal answer. -/
inductive Effect (i : Instr) (s : State) : State → Prop where
  | answer {r : Response} (ev : List Activity) (hr : responseLegal s.bufMax r = true) : Effect i s (s.answer r ev)
  | write {sid : Sid} {sl sl' : Slot} {r : Response} (ev : List Activity) (hsl : s.slot? sid = some sl)
    (hw : SlotWrite i sid sl sl') (hr : responseLegal s.bufMax r = true) :
    Effect i s ((s.setSlot sid sl').answer r ev)

/-- Every next state of the outcome `o` is an effect of `i` on `s`; a refusal has none. -/
def Allowed (i : Instr) (s : State) (o : Host.Outcome State Fault Refusal) : Prop := ∀ t, o = .next t → Effect i s t

theorem responseLegal_errorResponse (n : Nat) (e : Status) : responseLegal n (errorResponse e) = true := by
  simp [responseLegal, errorResponse]

theorem responseLegal_of_ok {n : Nat} {r : Response} (hok : r.status = .ok) (hfits : r.obuf.length ≤ n) :
    responseLegal n r = true := by
  simp [responseLegal, hok, hfits]

section Operations

variable {i : Instr} {s : State}

theorem Allowed.raise (e : Status) : Allowed i s (s.raise e) := by
  rintro t ⟨⟩
  exact .answer [] (responseLegal_errorResponse _ e)

theorem Allowed.respond {r : Response} {ev : List Activity} (hok : r.status = .ok) : Allowed i s (s.respond r ev) := by
  intro t ht
  obtain ⟨hfits, rfl⟩ := State.respond_next ht
  exact .answer ev (responseLegal_of_ok hok hfits)

theorem Allowed.setSlot_respond {sid : Sid} {sl sl' : Slot} {r : Response} {ev : List Activity}
    (hsl : s.slot? sid = some sl) (hw : SlotWrite i sid sl sl') (hok : r.status = .ok) :
    Allowed i s ((s.setSlot sid sl').respond r ev) := by
  intro t ht
  obtain ⟨hfits, rfl⟩ := State.respond_next ht
  exact .write ev hsl hw (responseLegal_of_ok hok hfits)

theorem Allowed.withInput {n : Nat} {k : Host.Outcome State Fault Refusal} (hk : Allowed i s k) :
    Allowed i s (s.withInput n k) :=
  fun t ht => hk t (State.withInput_next ht).2

theorem Allowed.withSlot {sid : Sid} {k : Slot → Host.Outcome State Fault Refusal}
    (hk : ∀ sl, s.slot? sid = some sl → Allowed i s (k sl)) : Allowed i s (s.withSlot sid k) := by
  intro t ht
  obtain ⟨-, rfl⟩ | ⟨sl, hsl, ht'⟩ := State.withSlot_next ht
  · exact .answer [] (responseLegal_errorResponse _ _)
  · exact hk sl hsl t ht'

theorem Allowed.withMessage {sid : Sid} {p : Bytes} {k : Slot → Host.Outcome State Fault Refusal}
    (hk : ∀ sl, s.slot? sid = some sl → Allowed i s (k sl)) : Allowed i s (s.withMessage sid p k) :=
  .withInput (.withSlot hk)

theorem Allowed.handshakeStep {sid : Sid} {sl : Slot} {m : Byte} {h : Option Header} (hsl : s.slot? sid = some sl)
    (hm : BringsHandshake i sid m) : Allowed i s (s.handshakeStep sid sl m h) :=
  .setSlot_respond hsl (.handshake sl hm) rfl

theorem Allowed.pongReply {sl : Slot} {seq tick : U32} {h : Option Header} :
    Allowed i s (s.pongReply sl seq tick h) :=
  .respond rfl

theorem Allowed.deliver {sl : Slot} {h : Header} {p : Bytes} : Allowed i s (s.deliver sl h p) :=
  .respond rfl

end Operations

/-- The guard of the two dispatches on a handshake type, as membership. -/
theorem mem_handshakeTypes {m : Byte}
    (h : m = msgCode .clientHello ∨ m = msgCode .clientJoinRequest ∨ m = msgCode .clientReady) :
    m ∈ ([0x01, 0x02, 0x03] : List Byte) := by
  simpa using h

theorem execHdrDec_allowed (B : Bytes) (s : State) : Allowed (.hdrDec B) s (execHdrDec B s) := by
  refine .withInput ?_
  split
  · exact .raise _
  · exact .respond rfl

theorem execFrmParse_allowed (B : Bytes) (s : State) : Allowed (.frmParse B) s (execFrmParse B s) := by
  refine .withInput ?_
  split
  · exact .raise _
  · exact .respond rfl

theorem execHsMsg_allowed (sid : Sid) (m : Byte) (q u : U32) (s : State) :
    Allowed (.hsMsg sid m q u) s (execHsMsg sid m q u s) := by
  refine .withSlot fun sl hsl => ?_
  split
  next hm => exact .handshakeStep hsl (.hsMsg q u (mem_handshakeTypes hm))
  · split
    · exact .pongReply
    · exact .respond rfl

theorem execRxDgram_allowed (sid : Sid) (B : Bytes) (s : State) : Allowed (.rxDgram sid B) s (execRxDgram sid B s) := by
  refine .withInput (.withSlot fun sl hsl => ?_)
  split
  · exact .raise _
  next h p hp =>
    obtain ⟨hvalid, rfl⟩ := frameVerdict_of_parse_ok hp
    split
    next hm => exact .handshakeStep hsl (.rxDgram hvalid (mem_handshakeTypes hm))
    · split
      · exact .pongReply
      · split
        · exact .deliver
        · exact .raise _

/-- Every instruction that gives a next state answers legally and writes at most one slot, its own, in one of the ways of
`SlotWrite`. -/
theorem exec_allowed (i : Instr) (s : State) : Allowed i s (exec i s) := by
  cases i with
  | msgClientHello sid f P => exact .withMessage fun sl hsl => .handshakeStep hsl (.msgClientHello sid f P)
  | msgClientJoinRequest sid f P => exact .withMessage fun sl hsl => .handshakeStep hsl (.msgClientJoinRequest sid f P)
  | msgClientReady sid f P => exact .withMessage fun sl hsl => .handshakeStep hsl (.msgClientReady sid f P)
  | msgClientPing sid f P => exact .withMessage fun _ _ => .pongReply
  | msgClientInput sid f P => exact .withMessage fun _ _ => .deliver
  | msgSnapshot sid f P => exact .withMessage fun _ _ => .deliver
  | msgLevelInit sid f P => exact .withMessage fun _ _ => .deliver
  | crcGen B => exact .withInput (.respond rfl)
  | crcChk B e => exact .withInput (.respond rfl)
  | hdrEnc pt mt sq tk ps => exact .respond rfl
  | hdrDec B => exact execHdrDec_allowed B s
  | frmAsm pt mt sq tk P => exact .withInput (.respond rfl)
  | frmParse B => exact execFrmParse_allowed B s
  | frmPong sq tk => exact .respond rfl
  | hsMsg sid m q u => exact execHsMsg_allowed sid m q u s
  | hsQry sid => exact .withSlot fun _ _ => .respond rfl
  | hsRst sid => exact .withSlot fun sl hsl => .setSlot_respond hsl (.hsRst sid sl) rfl
  | hsTouch sid => exact .withSlot fun _ _ => .respond rfl
  | trkNext sid => exact .withSlot fun sl hsl => .setSlot_respond hsl (.trkNext sid sl) rfl
  | trkRst sid => exact .withSlot fun sl hsl => .setSlot_respond hsl (.trkRst sid sl) rfl
  | rxDgram sid B => exact execRxDgram_allowed sid B s

/-- A slot keeps its contents, or the instruction writes it. -/
theorem exec_slot_cases {i : Instr} {s t : State} {k : Sid} {sl sl' : Slot} (ht : exec i s = .next t)
    (hsl : s.slot? k = some sl) (hsl' : t.slot? k = some sl') : sl' = sl ∨ SlotWrite i k sl sl' := by
  cases exec_allowed i s t ht with
  | answer ev hr => exact .inl (Option.some.inj (hsl'.symm.trans hsl))
  | @write sid old new r ev hold hw hr =>
    rw [State.answer_slot?] at hsl'
    by_cases hk : k = sid
    · subst hk
      obtain rfl : old = sl := Option.some.inj (hold.symm.trans hsl)
      obtain rfl : new = sl' := Option.some.inj ((State.setSlot_slot?_self new hold).symm.trans hsl')
      exact .inr hw
    · rw [State.setSlot_slot?_ne s new hk] at hsl'
      exact .inl (Option.some.inj (hsl'.symm.trans hsl))

/-! ### The handshake step: flags and state only rise, and the reachable records are kept -/

/-- No flag is cleared and the state's code is not lowered (`10_state.md` R27, `45_handshake.md` R147 c). -/
structure SessionRises (r r' : Session) : Prop where
  sawHello : r.sawHello = true → r'.sawHello = true
  sawJoin : r.sawJoin = true → r'.sawJoin = true
  sawReady : r.sawReady = true → r'.sawReady = true
  state : (hsStateCode r.state).toNat ≤ (hsStateCode r'.state).toNat

theorem SessionRises.refl (r : Session) : SessionRises r r := ⟨id, id, id, le_rfl⟩

theorem SessionRises.trans {a b c : Session} (hab : SessionRises a b) (hbc : SessionRises b c) : SessionRises a c :=
  ⟨hbc.sawHello ∘ hab.sawHello, hbc.sawJoin ∘ hab.sawJoin, hbc.sawReady ∘ hab.sawReady, hab.state.trans hbc.state⟩

/-- A message sets the flag of its own type (R137 to R139). -/
theorem markSeen_eq (r : Session) (m : Byte) :
    markSeen r m = ⟨r.state, r.sawHello || decide (m = 0x01), r.sawJoin || decide (m = 0x02),
      r.sawReady || decide (m = 0x03)⟩ := by
  simp only [markSeen, msgCode_clientHello, msgCode_clientJoinRequest, msgCode_clientReady]
  by_cases hHello : m = 0x01
  · subst hHello; simp
  · by_cases hJoin : m = 0x02
    · subst hJoin; simp
    · by_cases hReady : m = 0x03
      · subst hReady; simp
      · simp only [hHello, hJoin, hReady, if_false, decide_false, Bool.or_false]

theorem markSeen_rises (r : Session) (m : Byte) : SessionRises r (markSeen r m) := by
  rw [markSeen_eq]
  exact ⟨fun h => by simp [h], fun h => by simp [h], fun h => by simp [h], le_rfl⟩

/-- A guarded advance rises when its guard says that the new state's code is not lower. -/
theorem SessionRises.guarded {r : Session} {st : HsState} {guard : Prop} [Decidable guard]
    (h : guard → (hsStateCode r.state).toNat ≤ (hsStateCode st).toNat) :
    SessionRises r (if guard then { r with state := st } else r) := by
  split
  next hguard => exact ⟨id, id, id, h hguard⟩
  · exact .refl r

theorem advanceHello_rises (r : Session) : SessionRises r (advanceHello r) :=
  .guarded fun ⟨hstate, _⟩ => by rw [hstate]; decide

theorem advanceJoin_rises (r : Session) : SessionRises r (advanceJoin r) :=
  .guarded fun ⟨hstate, _⟩ => by rw [hstate]; decide

theorem advanceReady_rises (r : Session) : SessionRises r (advanceReady r) :=
  .guarded fun ⟨hstate, _⟩ => by rw [hstate]; decide

theorem hsStep_rises (r : Session) (m : Byte) : SessionRises r (hsStep r m) :=
  (markSeen_rises r m).trans <|
    (advanceHello_rises _).trans <| (advanceJoin_rises _).trans (advanceReady_rises _)

theorem SlotWrite.rises {i : Instr} {k : Sid} {sl sl' : Slot} (hw : SlotWrite i k sl sl') (hi : i ≠ .hsRst k) :
    SessionRises sl.hs sl'.hs := by
  cases hw with
  | handshake sl hm => exact hsStep_rises _ _
  | hsRst => exact absurd rfl hi
  | trkNext => exact .refl _
  | trkRst => exact .refl _

/-- From a state that was the function of fewer flags, the cascade of R140 reaches the function of all of them. -/
theorem advance_of_more_flags : ∀ hello join ready hello' join' ready' : Bool,
    advance ⟨stateOfFlags hello join ready, hello || hello', join || join', ready || ready'⟩ =
      recordOfFlags (hello || hello') (join || join') (ready || ready') := by
  decide

theorem recordConsistent_recordOfFlags (hello join ready : Bool) :
    recordConsistent (recordOfFlags hello join ready) = true := by
  simp [recordConsistent, recordOfFlags]

theorem recordConsistent_iff {r : Session} :
    recordConsistent r = true ↔ r = recordOfFlags r.sawHello r.sawJoin r.sawReady := by
  simp [recordConsistent]

theorem recordConsistent_fresh : recordConsistent Session.fresh = true := by decide

theorem recordConsistent_hsStep {r : Session} (hr : recordConsistent r = true) (m : Byte) :
    recordConsistent (hsStep r m) = true := by
  rw [recordConsistent_iff] at hr
  have hstate : r.state = stateOfFlags r.sawHello r.sawJoin r.sawReady := congrArg Session.state hr
  rw [hsStep, markSeen_eq, hstate, advance_of_more_flags]
  exact recordConsistent_recordOfFlags _ _ _

theorem SlotWrite.keeps_recordConsistent {i : Instr} {k : Sid} {sl sl' : Slot} (hw : SlotWrite i k sl sl')
    (hsl : recordConsistent sl.hs = true) : recordConsistent sl'.hs = true := by
  cases hw with
  | handshake sl hm => exact recordConsistent_hsStep hsl _
  | hsRst => exact recordConsistent_fresh
  | trkNext => exact hsl
  | trkRst => exact hsl

/-! ### The invariant -/

theorem stateInv_iff {s : State} :
    stateInv s = true ↔ s.config.legal = true ∧ (∀ sl ∈ s.slots, recordConsistent sl.hs = true) ∧
      ∀ r, s.resp = some r → responseLegal s.bufMax r = true := by
  cases hresp : s.resp <;> simp [stateInv, hresp, and_assoc]

theorem stateInv_resetWith {c : Config} (hc : c.legal = true) : stateInv (State.resetWith c) = true := by
  rw [stateInv_iff]
  refine ⟨by simpa [State.config, State.resetWith] using hc, fun sl hsl => ?_, fun r hr => by cases hr⟩
  obtain rfl : sl = Slot.fresh := List.eq_of_mem_replicate hsl
  exact recordConsistent_fresh

theorem stateInv_answer {s : State} {r : Response} (ev : List Activity) (hs : stateInv s = true)
    (hr : responseLegal s.bufMax r = true) : stateInv (s.answer r ev) = true := by
  rw [stateInv_iff] at hs ⊢
  obtain ⟨hlegal, hslots, -⟩ := hs
  exact ⟨hlegal, hslots, fun r' h => by cases h; exact hr⟩

theorem stateInv_setSlot {s : State} {sl : Slot} (sid : Sid) (hs : stateInv s = true)
    (hsl : recordConsistent sl.hs = true) : stateInv (s.setSlot sid sl) = true := by
  rw [stateInv_iff] at hs ⊢
  obtain ⟨hlegal, hslots, hresp⟩ := hs
  refine ⟨by rwa [State.setSlot_config], fun x hx => ?_, hresp⟩
  obtain hx | rfl := List.mem_or_eq_of_mem_set hx
  · exact hslots x hx
  · exact hsl

/-- `RESET` is the machine of its parameters right after reset, the script kept (`70_reset_and_hazards.md` R195). -/
theorem State.applyReset_eq (s : State) : s.applyReset = { State.resetWith s.config with script := s.script } := by
  simp [State.applyReset, State.resetWith, State.config]

theorem stateInv_applyReset {s : State} (hs : stateInv s = true) : stateInv s.applyReset = true := by
  rw [State.applyReset_eq]
  exact stateInv_resetWith (stateInv_iff.mp hs).1

theorem recordConsistent_of_slot? {s : State} {sid : Sid} {sl : Slot} (hs : stateInv s = true)
    (hsl : s.slot? sid = some sl) : recordConsistent sl.hs = true :=
  (stateInv_iff.mp hs).2.1 sl (List.mem_of_getElem? hsl)

theorem stateInv_exec {i : Instr} {s t : State} (hs : stateInv s = true) (ht : exec i s = .next t) :
    stateInv t = true := by
  cases exec_allowed i s t ht with
  | answer ev hr => exact stateInv_answer ev hs hr
  | write ev hsl hw hr =>
    have hwritten := hw.keeps_recordConsistent (recordConsistent_of_slot? hs hsl)
    exact stateInv_answer ev (stateInv_setSlot _ hs hwritten) hr

theorem stateInv_runCommand {c : Command} {s t : State} (hs : stateInv s = true) (ht : runCommand c s = .next t) :
    stateInv t = true := by
  have ht' := (State.withInput_next ht).2
  split at ht'
  next e _ =>
    cases ht'
    exact stateInv_answer [] hs (responseLegal_errorResponse _ e)
  · exact stateInv_exec hs ht'

/-! ### The obligations -/

/-- Settles O50: the step takes nothing, a `RESET`, or a command, and taking an entry off the script touches nothing the
invariant reads. -/
theorem stepKeepsTheInvariant : Obligations.StepKeepsTheInvariant := by
  intro s t hs ht
  rw [step, runInput] at ht
  split at ht
  · cases ht; exact hs
  next rest _ =>
    have hs' : stateInv { s with script := rest } = true := hs
    cases ht
    exact stateInv_applyReset hs'
  next c rest _ =>
    have hs' : stateInv { s with script := rest } = true := hs
    exact stateInv_runCommand hs' ht

/-- Settles O26: read off which writes of `SlotWrite` change the record and which the counters. -/
theorem stateHasOnlyItsNamedWriters : Obligations.StateHasOnlyItsNamedWriters := by
  intro i s t k sl sl' ht hsl hsl'
  obtain rfl | hw := exec_slot_cases ht hsl hsl'
  · exact ⟨fun h => absurd rfl h, fun h => by simp at h⟩
  cases hw with
  | handshake sl hm =>
    refine ⟨fun _ => ?_, fun h => by simp at h⟩
    cases hm with
    | hsMsg q u hm => exact .inl ⟨_, q, u, rfl, hm⟩
    | rxDgram hvalid hm => exact .inr (.inl ⟨_, rfl, hvalid, hm⟩)
    | msgClientHello sid f P => exact .inr (.inr (.inr ⟨f, P, .inl rfl⟩))
    | msgClientJoinRequest sid f P => exact .inr (.inr (.inr ⟨f, P, .inr (.inl rfl)⟩))
    | msgClientReady sid f P => exact .inr (.inr (.inr ⟨f, P, .inr (.inr rfl)⟩))
  | hsRst => exact ⟨fun _ => .inr (.inr (.inl rfl)), fun h => by simp at h⟩
  | trkNext => exact ⟨fun h => absurd rfl h, fun _ => .inl rfl⟩
  | trkRst => exact ⟨fun h => absurd rfl h, fun _ => .inr rfl⟩

/-- Settles O27: an unwritten slot keeps its record, and every write but that of `HS.RST` lets it only rise. -/
theorem flagsAndStateOnlyRise : Obligations.FlagsAndStateOnlyRise := by
  intro i s t k sl sl' hi ht hsl hsl'
  have hrises : SessionRises sl.hs sl'.hs := by
    obtain rfl | hw := exec_slot_cases ht hsl hsl'
    · exact .refl _
    · exact hw.rises hi
  exact ⟨hrises.sawHello, hrises.sawJoin, hrises.sawReady, hrises.state⟩

/-- Settles O49: the recommended parameters are legal, and 256 slots are enough for every 8-bit `sid`. -/
theorem invariantHoldsAtReset : Obligations.InvariantHoldsAtReset := by
  refine ⟨stateInv_resetWith (by decide), fun sid => ?_⟩
  have hslots : State.reset.slots = List.replicate 256 Slot.fresh := rfl
  rw [State.slot?, hslots, List.getElem?_replicate, if_pos sid.isLt]
  rfl

end Sys2Proof.Machine

/-! ### The buffers and the shared state (`20_memory.md`) -/

namespace Sys2Proof.Machine
open Sys2Proof.Safety

/-! #### Refusing an over-long `IBUF` at the step (R41) -/

theorem runCommand_of_input_tooLong {c : Command} {s : State} (hlong : s.bufMax < c.ibuf.length) :
    runCommand c s = .refused .inputTooLong :=
  State.withInput_tooLong hlong _

theorem step_of_script_nil {s : State} (hscript : s.script = []) : step s = .next s := by
  rw [step, runInput, hscript]

/-- Settles O47: R41's test comes before the decoder, so the `op` plays no part in the refusal. -/
theorem stepRefusesOverlongInputAndIdles : Obligations.StepRefusesOverlongInputAndIdles := by
  refine ⟨fun s c rest hscript hlong => ?_, fun s hscript => step_of_script_nil hscript⟩
  have hlong' : ({ s with script := rest } : State).bufMax < c.ibuf.length := hlong
  calc step s = runCommand c { s with script := rest } := step_of_script_command hscript
    _ = .refused .inputTooLong := runCommand_of_input_tooLong hlong'

/-! #### When an instruction is answered (R41) -/

theorem ibufFits_iff {s : State} {b : Bytes} : ibufFits s.config b = true ↔ b.length ≤ s.bufMax :=
  decide_eq_true_iff

theorem frameFits_iff {s : State} {p : Bytes} : frameFits s.config p = true ↔ p.length + 19 ≤ s.bufMax :=
  decide_eq_true_iff

/-- The outcome is a next state. -/
def Answers (o : Host.Outcome State Fault Refusal) : Prop := ∃ t, o = .next t

/-- The outcome is a next state where `fits`, and one of the two length refusals where not. -/
structure AcceptedWhen (fits : Bool) (o : Host.Outcome State Fault Refusal) : Prop where
  answers : fits = true → Answers o
  refused : fits = false → o = .refused .inputTooLong ∨ o = .refused .outputTooLong

section Acceptance

variable {s : State}

theorem Answers.raise (e : Status) : Answers (s.raise e) := ⟨_, rfl⟩

theorem Answers.respond {r : Response} {ev : List Activity} (hfits : r.obuf.length ≤ s.bufMax) :
    Answers (s.respond r ev) :=
  ⟨_, State.respond_fits hfits ev⟩

theorem Answers.withSlot {sid : Sid} {k : Slot → Host.Outcome State Fault Refusal} (hk : ∀ sl, Answers (k sl)) :
    Answers (s.withSlot sid k) := by
  cases hs : s.slot? sid with
  | none => exact ⟨_, State.withSlot_none hs k⟩
  | some sl => rw [State.withSlot_some hs]; exact hk sl

theorem Answers.handshakeStep {sid : Sid} {sl : Slot} {m : Byte} {h : Option Header} :
    Answers (s.handshakeStep sid sl m h) :=
  ⟨_, State.handshakeStep_eq s sid sl m h⟩

theorem Answers.pongReply {sl : Slot} {q u : U32} {h : Option Header} (hpong : 19 ≤ s.bufMax) :
    Answers (s.pongReply sl q u h) :=
  .respond (by simpa using hpong)

theorem Answers.deliver {sl : Slot} {h : Header} {p : Bytes} (hp : p.length ≤ s.bufMax) :
    Answers (s.deliver sl h p) :=
  .respond (by simpa using hp)

theorem AcceptedWhen.always {o : Host.Outcome State Fault Refusal} (ho : Answers o) : AcceptedWhen true o :=
  ⟨fun _ => ho, nofun⟩

theorem AcceptedWhen.withInput {b : Bytes} {k : Host.Outcome State Fault Refusal}
    (hk : b.length ≤ s.bufMax → Answers k) : AcceptedWhen (ibufFits s.config b) (s.withInput b.length k) where
  answers hfits := by
    rw [ibufFits_iff] at hfits
    rw [State.withInput_fits hfits]
    exact hk hfits
  refused hlong := by
    rw [← Bool.not_eq_true, ibufFits_iff, not_le] at hlong
    exact .inl (State.withInput_tooLong hlong k)

theorem AcceptedWhen.withMessage {sid : Sid} {p : Bytes} {k : Slot → Host.Outcome State Fault Refusal}
    (hk : ∀ sl, p.length + 19 ≤ s.bufMax → Answers (k sl)) :
    AcceptedWhen (frameFits s.config p) (s.withMessage sid p k) where
  answers hfits := by
    rw [frameFits_iff] at hfits
    have hmessage : s.withMessage sid p k = s.withSlot sid k := State.withInput_fits hfits _
    rw [hmessage]
    exact .withSlot fun sl => hk sl hfits
  refused hlong := by
    rw [← Bool.not_eq_true, frameFits_iff, not_le] at hlong
    exact .inl (State.withInput_tooLong hlong _)

end Acceptance

theorem execHdrDec_acceptedWhen (B : Bytes) (s : State) : AcceptedWhen (ibufFits s.config B) (execHdrDec B s) := by
  refine .withInput fun _ => ?_
  split
  · exact .raise _
  · exact .respond (Nat.zero_le _)

/-- The frame is 19 bytes longer than its payload, so where `IBUF` is accepted `OBUF` may still be too long. -/
theorem execFrmAsm_acceptedWhen (pt mt : Byte) (sq tk : U32) (P : Bytes) (s : State) :
    AcceptedWhen (frameFits s.config P) (execFrmAsm pt mt sq tk P s) where
  answers hfits := by
    rw [frameFits_iff] at hfits
    rw [execFrmAsm, State.withInput_fits (by omega)]
    exact .respond (by simpa using hfits)
  refused hlong := by
    rw [← Bool.not_eq_true, frameFits_iff, not_le] at hlong
    by_cases hinput : P.length ≤ s.bufMax
    · rw [execFrmAsm, State.withInput_fits hinput]
      exact .inr (State.respond_tooLong (by simpa using hlong) [])
    · exact .inl (State.withInput_tooLong (not_le.mp hinput) _)

theorem execFrmParse_acceptedWhen (B : Bytes) (s : State) : AcceptedWhen (ibufFits s.config B) (execFrmParse B s) := by
  refine .withInput fun hfits => ?_
  split
  · exact .raise _
  next h p hp =>
    obtain ⟨hlen, hpayload⟩ := parse_length hp
    exact .respond (by simp only [memWrite_empty]; omega)

theorem execHsMsg_answers (sid : Sid) (m : Byte) (q u : U32) {s : State} (hpong : 19 ≤ s.bufMax) :
    Answers (execHsMsg sid m q u s) := by
  refine .withSlot fun sl => ?_
  split
  · exact .handshakeStep
  · split
    · exact .pongReply hpong
    · exact .respond (Nat.zero_le _)

theorem execRxDgram_acceptedWhen (sid : Sid) (B : Bytes) {s : State} (hpong : 19 ≤ s.bufMax) :
    AcceptedWhen (ibufFits s.config B) (execRxDgram sid B s) := by
  refine .withInput fun hfits => .withSlot fun sl => ?_
  split
  · exact .raise _
  next h p hp =>
    obtain ⟨hlen, hpayload⟩ := parse_length hp
    split
    · exact .handshakeStep
    · split
      · exact .pongReply hpong
      · split
        · exact .deliver (by omega)
        · exact .raise _

/-- Where a pong fits `BUF_MAX`, an instruction is answered exactly when its own buffers fit. -/
theorem exec_acceptedWhen (i : Instr) {s : State} (hpong : 19 ≤ s.bufMax) :
    AcceptedWhen (instrFits s.config i) (exec i s) := by
  cases i with
  | msgClientHello sid f P => exact .withMessage fun _ _ => .handshakeStep
  | msgClientJoinRequest sid f P => exact .withMessage fun _ _ => .handshakeStep
  | msgClientReady sid f P => exact .withMessage fun _ _ => .handshakeStep
  | msgClientPing sid f P => exact .withMessage fun _ _ => .pongReply hpong
  | msgClientInput sid f P => exact .withMessage fun _ hfits => .deliver (by omega)
  | msgSnapshot sid f P => exact .withMessage fun _ hfits => .deliver (by omega)
  | msgLevelInit sid f P => exact .withMessage fun _ hfits => .deliver (by omega)
  | crcGen B => exact .withInput fun _ => .respond (Nat.zero_le _)
  | crcChk B e => exact .withInput fun _ => .respond (Nat.zero_le _)
  | hdrEnc pt mt sq tk ps => exact .always (.respond (by simp only [memWrite_empty, encodeHeader_length]; omega))
  | hdrDec B => exact execHdrDec_acceptedWhen B s
  | frmAsm pt mt sq tk P => exact execFrmAsm_acceptedWhen pt mt sq tk P s
  | frmParse B => exact execFrmParse_acceptedWhen B s
  | frmPong sq tk => exact .always (.respond (by simpa using hpong))
  | hsMsg sid m q u => exact .always (execHsMsg_answers sid m q u hpong)
  | hsQry sid => exact .always (.withSlot fun _ => .respond (Nat.zero_le _))
  | hsRst sid => exact .always (.withSlot fun _ => .respond (Nat.zero_le _))
  | hsTouch sid => exact .always (.withSlot fun _ => .respond (Nat.zero_le _))
  | trkNext sid => exact .always (.withSlot fun _ => .respond (Nat.zero_le _))
  | trkRst sid => exact .always (.withSlot fun _ => .respond (Nat.zero_le _))
  | rxDgram sid B => exact execRxDgram_acceptedWhen sid B hpong

theorem responseLegal_obuf_fits {n : Nat} {r : Response} (hr : responseLegal n r = true) : r.obuf.length ≤ n := by
  simp only [responseLegal, Bool.and_eq_true, decide_eq_true_iff] at hr
  exact hr.1

theorem exec_next_obuf_fits {i : Instr} {s t : State} (ht : exec i s = .next t) :
    ∃ r, t.resp = some r ∧ r.obuf.length ≤ s.bufMax := by
  cases exec_allowed i s t ht with
  | answer ev hr => exact ⟨_, rfl, responseLegal_obuf_fits hr⟩
  | write ev hsl hw hr => exact ⟨_, rfl, responseLegal_obuf_fits hr⟩

/-- Settles O22: with room for a pong the acceptance of every instruction is decided by its own buffers, and every
answer is a legal response. -/
theorem acceptedExactlyWhenItFits : Obligations.AcceptedExactlyWhenItFits := by
  intro i s hpong
  have haccepted := exec_acceptedWhen i hpong
  refine ⟨fun hfits => ?_, haccepted.refused⟩
  obtain ⟨t, ht⟩ := haccepted.answers hfits
  obtain ⟨r, hresp, hobuf⟩ := exec_next_obuf_fits ht
  exact ⟨t, r, ht, hresp, hobuf⟩

/-! #### What an instruction's effect depends on (R47, R52) -/

/-- The state with `new`, if anything, written in the slot `own`, if any: all an instruction about `own` can do to the
session file. -/
def State.writeOwn (s : State) (own : Option Sid) (new : Option Slot) : State :=
  match new with
  | none => s
  | some sl =>
    match own with
    | none => s
    | some sid => s.setSlot sid sl

@[simp] theorem State.writeOwn_none_left (s : State) (new : Option Slot) : s.writeOwn none new = s := by
  cases new <;> rfl

@[simp] theorem State.writeOwn_none_right (s : State) (own : Option Sid) : s.writeOwn own none = s := rfl

@[simp] theorem State.writeOwn_some (s : State) (sid : Sid) (sl : Slot) :
    s.writeOwn (some sid) (some sl) = s.setSlot sid sl := rfl

@[simp] theorem State.writeOwn_bufMax (s : State) (own : Option Sid) (new : Option Slot) :
    (s.writeOwn own new).bufMax = s.bufMax := by
  cases own <;> cases new <;> simp

theorem State.writeOwn_slot?_ne (s : State) {own : Option Sid} {k : Sid} (new : Option Slot) (hk : own ≠ some k) :
    (s.writeOwn own new).slot? k = s.slot? k := by
  cases own with
  | none => simp
  | some sid =>
    cases new with
    | none => rfl
    | some sl => exact State.setSlot_slot?_ne s sl fun h => hk (by rw [h])

@[simp] theorem State.writeOwn_answer (s : State) (own : Option Sid) (new : Option Slot) (r : Response)
    (ev : List Activity) : (s.answer r ev).writeOwn own new = (s.writeOwn own new).answer r ev := by
  cases own <;> cases new <;> simp

theorem State.setSlot_comm (s : State) {a b : Sid} (x y : Slot) (hab : a ≠ b) :
    (s.setSlot a x).setSlot b y = (s.setSlot b y).setSlot a x := by
  have hindex : a.toNat ≠ b.toNat := fun h => hab (BitVec.eq_of_toNat_eq h)
  simp only [State.setSlot, List.set_comm _ _ hindex]

/-- Writes of different slots commute. -/
theorem State.writeOwn_comm (s : State) {own own' : Option Sid} (new new' : Option Slot)
    (hne : ∀ a b, own = some a → own' = some b → a ≠ b) :
    (s.writeOwn own new).writeOwn own' new' = (s.writeOwn own' new').writeOwn own new := by
  cases own with
  | none => simp
  | some a =>
    cases own' with
    | none => simp
    | some b =>
      cases new with
      | none => simp
      | some x =>
        cases new' with
        | none => simp
        | some y => exact State.setSlot_comm s x y (hne a b rfl rfl)

/-- All that an instruction about `own` may look at is the same in both states: `BUF_MAX` and that slot. -/
structure AgreeOn (own : Option Sid) (s s' : State) : Prop where
  bufMax : s'.bufMax = s.bufMax
  slot : ∀ sid, own = some sid → s'.slot? sid = s.slot? sid

theorem AgreeOn.refl (own : Option Sid) (s : State) : AgreeOn own s s := ⟨rfl, fun _ _ => rfl⟩

theorem AgreeOn.symm {own : Option Sid} {s s' : State} (hagree : AgreeOn own s s') : AgreeOn own s' s :=
  ⟨hagree.bufMax.symm, fun sid hsid => (hagree.slot sid hsid).symm⟩

/-- Where `o` is a next state of `s`, it is one write of the own slot, one response and events of the own slot only, and
`o'` is the next state of `s'` with that same write, response and events. -/
def SameEffect (own : Option Sid) (s s' : State) (o o' : Host.Outcome State Fault Refusal) : Prop :=
  ∀ t, o = .next t → ∃ (new : Option Slot) (r : Response) (ev : List Activity),
    (∀ e ∈ ev, own = some e.sid) ∧ t = (s.writeOwn own new).answer r ev ∧
    o' = .next ((s'.writeOwn own new).answer r ev)

section TwoRuns

variable {own : Option Sid} {s s' : State}

theorem SameEffect.raise (e : Status) : SameEffect own s s' (s.raise e) (s'.raise e) := by
  rintro t ⟨⟩
  exact ⟨none, errorResponse e, [], by simp, rfl, rfl⟩

theorem SameEffect.writeOwn_respond (hagree : AgreeOn own s s') (new : Option Slot) {r : Response} {ev : List Activity}
    (hev : ∀ e ∈ ev, own = some e.sid) :
    SameEffect own s s' ((s.writeOwn own new).respond r ev) ((s'.writeOwn own new).respond r ev) := by
  intro t ht
  obtain ⟨hfits, rfl⟩ := State.respond_next ht
  have hfits' : r.obuf.length ≤ (s'.writeOwn own new).bufMax := by
    rwa [State.writeOwn_bufMax, hagree.bufMax, ← s.writeOwn_bufMax own new]
  exact ⟨new, r, ev, hev, rfl, State.respond_fits hfits' ev⟩

theorem SameEffect.respond (hagree : AgreeOn own s s') {r : Response} :
    SameEffect own s s' (s.respond r []) (s'.respond r []) :=
  .writeOwn_respond hagree none (by simp)

theorem SameEffect.setSlot_respond {sid : Sid} (hagree : AgreeOn (some sid) s s') {sl : Slot} {r : Response} :
    SameEffect (some sid) s s' ((s.setSlot sid sl).respond r []) ((s'.setSlot sid sl).respond r []) :=
  .writeOwn_respond hagree (some sl) (by simp)

theorem SameEffect.withInput (hagree : AgreeOn own s s') {n : Nat} {k k' : Host.Outcome State Fault Refusal}
    (hk : SameEffect own s s' k k') : SameEffect own s s' (s.withInput n k) (s'.withInput n k') := by
  intro t ht
  obtain ⟨hfits, hkt⟩ := State.withInput_next ht
  rw [State.withInput_fits (hagree.bufMax ▸ hfits)]
  exact hk t hkt

theorem SameEffect.withSlot {sid : Sid} (hagree : AgreeOn (some sid) s s')
    {k k' : Slot → Host.Outcome State Fault Refusal} (hk : ∀ sl, SameEffect (some sid) s s' (k sl) (k' sl)) :
    SameEffect (some sid) s s' (s.withSlot sid k) (s'.withSlot sid k') := by
  have hslot := hagree.slot sid rfl
  cases hs : s.slot? sid with
  | none =>
    rw [State.withSlot_none hs, State.withSlot_none (hslot.trans hs)]
    exact .raise .badSession
  | some sl =>
    rw [State.withSlot_some hs, State.withSlot_some (hslot.trans hs)]
    exact hk sl

theorem SameEffect.withMessage {sid : Sid} (hagree : AgreeOn (some sid) s s') {p : Bytes}
    {k k' : Slot → Host.Outcome State Fault Refusal} (hk : ∀ sl, SameEffect (some sid) s s' (k sl) (k' sl)) :
    SameEffect (some sid) s s' (s.withMessage sid p k) (s'.withMessage sid p k') :=
  .withInput hagree (.withSlot hagree hk)

theorem SameEffect.handshakeStep {sid : Sid} (hagree : AgreeOn (some sid) s s') {sl : Slot} {m : Byte}
    {h : Option Header} :
    SameEffect (some sid) s s' (s.handshakeStep sid sl m h) (s'.handshakeStep sid sl m h) :=
  .setSlot_respond hagree

theorem SameEffect.pongReply (hagree : AgreeOn own s s') {sl : Slot} {q u : U32} {h : Option Header} :
    SameEffect own s s' (s.pongReply sl q u h) (s'.pongReply sl q u h) :=
  .respond hagree

theorem SameEffect.deliver (hagree : AgreeOn own s s') {sl : Slot} {h : Header} {p : Bytes} :
    SameEffect own s s' (s.deliver sl h p) (s'.deliver sl h p) :=
  .respond hagree

theorem execHdrDec_sameEffect (B : Bytes) (hagree : AgreeOn own s s') :
    SameEffect own s s' (execHdrDec B s) (execHdrDec B s') := by
  refine .withInput hagree ?_
  cases decodeHeader B with
  | error e => exact .raise e
  | ok h => exact .respond hagree

theorem execFrmParse_sameEffect (B : Bytes) (hagree : AgreeOn own s s') :
    SameEffect own s s' (execFrmParse B s) (execFrmParse B s') := by
  refine .withInput hagree ?_
  cases parse B with
  | error e => exact .raise e
  | ok hp => exact .respond hagree

theorem execHsMsg_sameEffect {sid : Sid} (m : Byte) (q u : U32) (hagree : AgreeOn (some sid) s s') :
    SameEffect (some sid) s s' (execHsMsg sid m q u s) (execHsMsg sid m q u s') := by
  refine .withSlot hagree fun sl => ?_
  split
  · exact .handshakeStep hagree
  · split
    · exact .pongReply hagree
    · exact .respond hagree

theorem execRxDgram_sameEffect {sid : Sid} (B : Bytes) (hagree : AgreeOn (some sid) s s') :
    SameEffect (some sid) s s' (execRxDgram sid B s) (execRxDgram sid B s') := by
  refine .withInput hagree (.withSlot hagree fun sl => ?_)
  cases parse B with
  | error e => exact .raise e
  | ok hp =>
    dsimp only
    split
    · exact .handshakeStep hagree
    · split
      · exact .pongReply hagree
      · split
        · exact .deliver hagree
        · exact .raise _

/-- An instruction looks at `BUF_MAX` and at its own slot, and at nothing else. -/
theorem exec_sameEffect (i : Instr) (hagree : AgreeOn (instrSlot i) s s') :
    SameEffect (instrSlot i) s s' (exec i s) (exec i s') := by
  cases i with
  | msgClientHello sid f P => exact .withMessage hagree fun _ => .handshakeStep hagree
  | msgClientJoinRequest sid f P => exact .withMessage hagree fun _ => .handshakeStep hagree
  | msgClientReady sid f P => exact .withMessage hagree fun _ => .handshakeStep hagree
  | msgClientPing sid f P => exact .withMessage hagree fun _ => .pongReply hagree
  | msgClientInput sid f P => exact .withMessage hagree fun _ => .deliver hagree
  | msgSnapshot sid f P => exact .withMessage hagree fun _ => .deliver hagree
  | msgLevelInit sid f P => exact .withMessage hagree fun _ => .deliver hagree
  | crcGen B => exact .withInput hagree (.respond hagree)
  | crcChk B e => exact .withInput hagree (.respond hagree)
  | hdrEnc pt mt sq tk ps => exact .respond hagree
  | hdrDec B => exact execHdrDec_sameEffect B hagree
  | frmAsm pt mt sq tk P => exact .withInput hagree (.respond hagree)
  | frmParse B => exact execFrmParse_sameEffect B hagree
  | frmPong sq tk => exact .respond hagree
  | hsMsg sid m q u => exact execHsMsg_sameEffect m q u hagree
  | hsQry sid => exact .withSlot hagree fun _ => .respond hagree
  | hsRst sid => exact .withSlot hagree fun _ => .setSlot_respond hagree
  | hsTouch sid =>
    exact .withSlot hagree fun _ => .writeOwn_respond hagree none fun e he => by rw [List.mem_singleton.mp he]; rfl
  | trkNext sid => exact .withSlot hagree fun _ => .setSlot_respond hagree
  | trkRst sid => exact .withSlot hagree fun _ => .setSlot_respond hagree
  | rxDgram sid B => exact execRxDgram_sameEffect B hagree

end TwoRuns

/-- An instruction leaves what an instruction about another slot, or about none, may look at. -/
theorem exec_agreeOn {i : Instr} {s t : State} {own : Option Sid} (ht : exec i s = .next t)
    (hne : ∀ a b, instrSlot i = some a → own = some b → a ≠ b) : AgreeOn own t s := by
  obtain ⟨new, r, ev, -, rfl, -⟩ := exec_sameEffect i (.refl _ s) t ht
  refine ⟨by simp, fun k hk => ?_⟩
  have hother : instrSlot i ≠ some k := fun hi => hne k k hi hk rfl
  rw [State.answer_slot?, State.writeOwn_slot?_ne s new hother]

/-- The response of `HS.QRY` to a record, or to an absent slot (`45_handshake.md` R143). -/
def queryResponse : Option Session → Response
  | none => errorResponse .badSession
  | some r => sessionResponse r

theorem exec_hsQry (sid : Sid) (s : State) :
    exec (.hsQry sid) s = .next (s.answer (queryResponse ((s.slot? sid).map Slot.hs)) []) := by
  change s.withSlot sid _ = _
  cases hs : s.slot? sid with
  | none => exact State.withSlot_none hs _
  | some sl =>
    rw [State.withSlot_some hs]
    exact State.respond_fits (Nat.zero_le _) []

/-- Settles O23: two states with one `BUF_MAX` agree on all that an instruction about no slot may look at; `HS.QRY`
answers by the record alone. -/
theorem pureCommandsIgnoreTheState : Obligations.PureCommandsIgnoreTheState := by
  refine ⟨fun i s s' t hi hbuf ht => ?_, fun sid s s' hrecord => ?_⟩
  · have hagree : AgreeOn (instrSlot i) s s' := ⟨hbuf, fun sid hsid => by simp [hi] at hsid⟩
    obtain ⟨new, r, ev, hev, rfl, ht'⟩ := exec_sameEffect i hagree t ht
    simp only [hi, State.writeOwn_none_left] at hev ht' ⊢
    obtain rfl : ev = [] := List.eq_nil_iff_forall_not_mem.mpr fun e he => nomatch hev e he
    exact ⟨r, rfl, ht'⟩
  · exact ⟨_, exec_hsQry sid s, hrecord ▸ exec_hsQry sid s'⟩

/-- Settles O43: each instruction has the same effect before the other as after it, since neither touches what the other
looks at, and the two writes commute. -/
theorem differentSlotsCommute : Obligations.DifferentSlotsCommute := by
  intro i j s t u hne ht hu
  have hne' : ∀ b a, instrSlot j = some b → instrSlot i = some a → b ≠ a :=
    fun b a hj hi => (hne a b hi hj).symm
  obtain ⟨newJ, rJ, evJ, -, rfl, ht'⟩ := exec_sameEffect j (exec_agreeOn ht hne) u hu
  obtain ⟨newI, rI, evI, -, rfl, hu'⟩ := exec_sameEffect i (exec_agreeOn ht' hne').symm t ht
  refine ⟨_, _, ht', hu', ?_, rfl, rfl, rfl, rfl⟩
  simp only [State.writeOwn_answer, State.answer_slots, State.writeOwn_comm s newI newJ hne]

end Sys2Proof.Machine

/-! ### The encoded forms (`30_encoding.md`) -/

namespace Sys2Proof.Machine
open Sys2Proof.Safety

/-! #### The fields of a command word (R71) -/

@[simp] theorem opField_commandWord (op : Byte) (sid : Sid) : opField (commandWord op sid) = op :=
  BitVec.extractLsb'_append_eq_left

@[simp] theorem sidField_commandWord (op : Byte) (sid : Sid) : sidField (commandWord op sid) = sid :=
  BitVec.extractLsb'_append_eq_right

/-- A command word holds nothing beside its two fields. -/
theorem commandWord_fields (w : BitVec 16) : commandWord (opField w) (sidField w) = w :=
  BitVec.extractLsb'_append_extractLsb' (w := 8) (len := 8)

/-! #### The fields of a header vector (R60) -/

section HeaderFields

variable (m : MsgType) (f : MsgFields)

/-- The width of a header vector as the sum of its fields' widths, which the library's rules for `++` speak of. -/
theorem extract_headerVector (start len : Nat) :
    (headerVector m f).extractLsb' start len =
      (magicWord ++ versionByte ++ f.ptype ++ msgCode m ++ f.seq ++ f.tick ++ f.psize :
        BitVec (32 + 8 + 8 + 8 + 16 + 32 + 16)).extractLsb' start len := rfl

@[simp] theorem magicField_headerVector : magicField (headerVector m f) = magicWord := by
  simp (disch := decide) only [magicField, extract_headerVector, BitVec.extractLsb'_append_eq_of_le, Nat.reduceSub,
    BitVec.extractLsb'_eq_self]

@[simp] theorem versionField_headerVector : versionField (headerVector m f) = versionByte := by
  simp (disch := decide) only [versionField, extract_headerVector, BitVec.extractLsb'_append_eq_of_le, Nat.reduceSub,
    BitVec.extractLsb'_append_eq_right]

@[simp] theorem messageTypeField_headerVector : messageTypeField (headerVector m f) = msgCode m := by
  simp (disch := decide) only [messageTypeField, extract_headerVector, BitVec.extractLsb'_append_eq_of_le,
    Nat.reduceSub, BitVec.extractLsb'_append_eq_right]

@[simp] theorem payloadSizeField_headerVector : payloadSizeField (headerVector m f) = f.psize :=
  BitVec.extractLsb'_append_eq_right

@[simp] theorem messageFields_headerVector : messageFields (headerVector m f) = f := by
  simp (disch := decide) only [messageFields, packetTypeField, sequenceIdField, tickIdField,
    payloadSizeField_headerVector, extract_headerVector, BitVec.extractLsb'_append_eq_of_le, Nat.reduceSub,
    BitVec.extractLsb'_append_eq_right]

end HeaderFields

/-- The seven fields of R60 leave no bit of a header vector out. -/
theorem append_headerFields (v : HeaderVector) :
    magicField v ++ versionField v ++ packetTypeField v ++ messageTypeField v ++ sequenceIdField v ++ tickIdField v ++
      payloadSizeField v = v := by
  simp only [magicField, versionField, packetTypeField, messageTypeField, sequenceIdField, tickIdField,
    payloadSizeField]
  iterate 6 rw [BitVec.extractLsb'_append_extractLsb'_eq_extractLsb' (by decide)]
  exact BitVec.extractLsb'_eq_self

/-- A header vector with the fixed fields of a row of R66 is the one the encoder writes from its other fields (R67). -/
theorem headerVector_messageFields {v : HeaderVector} {m : MsgType} (hmagic : magicField v = magicWord)
    (hversion : versionField v = versionByte) (htype : messageTypeField v = msgCode m) :
    headerVector m (messageFields v) = v := by
  rw [headerVector, ← hmagic, ← hversion, ← htype]
  exact append_headerFields v

/-! #### Messages (R66, R67, R69) -/

/-- What the decoder has established of a message it accepts, and all it asks of one. -/
theorem decode_message_ok_iff {sid : Sid} {v : HeaderVector} {P : Bytes} {i : Instr} :
    decode (.message sid v P) = .ok i ↔
      ∃ m, magicField v = magicWord ∧ versionField v = versionByte ∧ P.length = (payloadSizeField v).toNat ∧
        messageTypeField v = msgCode m ∧ messageInstr m sid (messageFields v) P = i := by
  constructor
  · intro hd
    rw [decode, decodeMessage] at hd
    split at hd
    · cases hd
    next hmagic =>
      split at hd
      · cases hd
      next hversion =>
        split at hd
        · cases hd
        · split at hd
          · cases hd
          next hlength =>
            split at hd
            · cases hd
            next m hm =>
              cases hd
              exact ⟨m, not_not.mp hmagic, not_not.mp hversion, not_not.mp hlength, msgCode_of_msgOfCode hm, rfl⟩
  · rintro ⟨m, hmagic, hversion, hlength, htype, rfl⟩
    simp [decode, decodeMessage, hmagic, hversion, hlength, htype, msgOfCode_msgCode]

/-- The encoder writes each of the seven messages in one way. -/
theorem encode_messageInstr (m : MsgType) (sid : Sid) (f : MsgFields) (P : Bytes) :
    encode (messageInstr m sid f P) = .message sid (headerVector m f) P := by
  cases m <;> rfl

/-- A written message reads back, its payload being of the declared length (R61). -/
theorem decode_encode_messageInstr {c : Config} (m : MsgType) (sid : Sid) {f : MsgFields} {P : Bytes}
    (hwf : messageWellFormed c f P = true) :
    decode (encode (messageInstr m sid f P)) = .ok (messageInstr m sid f P) := by
  obtain ⟨hlength, -⟩ : P.length = f.psize.toNat ∧ frameFits c P = true := by
    simpa [messageWellFormed] using hwf
  rw [encode_messageInstr, decode_message_ok_iff]
  exact ⟨m, by simp, by simp, by simpa using hlength, by simp, by simp⟩

/-- Settles O52: the decoder has tested the fields a row fixes, and the others are in the instruction. -/
theorem decodedMessagesEncodeBack : Obligations.DecodedMessagesEncodeBack := by
  intro sid v P i hd
  obtain ⟨m, hmagic, hversion, -, htype, rfl⟩ := decode_message_ok_iff.mp hd
  rw [encode_messageInstr, headerVector_messageFields hmagic hversion htype]

/-! #### Commands (R72, R73, R75) -/

/-- R73's table: the instruction each `op` selects from a command's `sid` field, operand record and `IBUF`. -/
inductive Selects (sid : Sid) (x : Operands) (B : Bytes) : Byte → Instr → Prop where
  | crcGen : Selects sid x B 0x10 (.crcGen B)
  | crcChk : Selects sid x B 0x11 (.crcChk B x.exp)
  | hdrEnc : Selects sid x B 0x20 (.hdrEnc x.ptype x.mtype x.seq x.tick x.psize)
  | hdrDec : Selects sid x B 0x21 (.hdrDec B)
  | frmAsm : Selects sid x B 0x40 (.frmAsm x.ptype x.mtype x.seq x.tick B)
  | frmParse : Selects sid x B 0x41 (.frmParse B)
  | frmPong : Selects sid x B 0x42 (.frmPong x.seq x.tick)
  | hsMsg : Selects sid x B 0x50 (.hsMsg sid x.mtype x.seq x.tick)
  | hsQry : Selects sid x B 0x51 (.hsQry sid)
  | hsRst : Selects sid x B 0x52 (.hsRst sid)
  | hsTouch : Selects sid x B 0x53 (.hsTouch sid)
  | trkNext : Selects sid x B 0x60 (.trkNext sid)
  | trkRst : Selects sid x B 0x61 (.trkRst sid)
  | rxDgram : Selects sid x B 0x70 (.rxDgram sid B)

/-- The decoder follows R73's table. -/
theorem Selects.decode_eq {sid : Sid} {x : Operands} {B : Bytes} {op : Byte} {i : Instr} (h : Selects sid x B op i) :
    decode (.command ⟨commandWord op sid, x, B⟩) = .ok i := by
  simp only [decode, decodeCommand, opField_commandWord, sidField_commandWord]
  cases h <;> rfl

/-- Every one of the 14 `op` codes is in R73's table. -/
theorem exists_selects {op : Byte} (hop : op ∈ opCodes) (sid : Sid) (x : Operands) (B : Bytes) :
    ∃ i, Selects sid x B op i := by
  simp only [opCodes, List.mem_cons, List.not_mem_nil, or_false] at hop
  rcases hop with rfl | rfl | rfl | rfl | rfl | rfl | rfl | rfl | rfl | rfl | rfl | rfl | rfl | rfl
  · exact ⟨_, .crcGen⟩
  · exact ⟨_, .crcChk⟩
  · exact ⟨_, .hdrEnc⟩
  · exact ⟨_, .hdrDec⟩
  · exact ⟨_, .frmAsm⟩
  · exact ⟨_, .frmParse⟩
  · exact ⟨_, .frmPong⟩
  · exact ⟨_, .hsMsg⟩
  · exact ⟨_, .hsQry⟩
  · exact ⟨_, .hsRst⟩
  · exact ⟨_, .hsTouch⟩
  · exact ⟨_, .trkNext⟩
  · exact ⟨_, .trkRst⟩
  · exact ⟨_, .rxDgram⟩

/-- A command that uses no slot selects the same instruction at every `sid` field (R71). -/
theorem Selects.of_unused_sid {a : Sid} {x : Operands} {B : Bytes} {op : Byte} {i : Instr} (h : Selects a x B op i)
    (hop : op ∉ sessionOpCodes) (b : Sid) : Selects b x B op i := by
  cases h with
  | crcGen => exact .crcGen
  | crcChk => exact .crcChk
  | hdrEnc => exact .hdrEnc
  | hdrDec => exact .hdrDec
  | frmAsm => exact .frmAsm
  | frmParse => exact .frmParse
  | frmPong => exact .frmPong
  | _ => exact absurd (by decide) hop

/-- Every other `op` is reserved (R75). -/
theorem decode_of_reserved {c : Command} (hop : opField c.word ∉ opCodes) :
    decode (.command c) = .error .badCommand := by
  simp only [opCodes, List.mem_cons, List.not_mem_nil, or_false, not_or] at hop
  simp only [decode, decodeCommand, hop, if_false]

/-- A command with one of the 14 codes decodes to what its fields select. -/
theorem decode_of_mem_opCodes {c : Command} (hop : opField c.word ∈ opCodes) : ∃ i, decode (.command c) = .ok i := by
  obtain ⟨i, hi⟩ := exists_selects hop (sidField c.word) c.args c.ibuf
  have hd := hi.decode_eq
  rw [commandWord_fields] at hd
  exact ⟨i, hd⟩

/-- Settles O53: outside R73's table the decoder rejects, and the table's sessionless rows do not name `sid`. -/
theorem opcodesDecodeAndUnusedSlotIsIgnored : Obligations.OpcodesDecodeAndUnusedSlotIsIgnored := by
  refine ⟨fun c => ⟨fun ⟨i, hi⟩ => ?_, decode_of_mem_opCodes⟩, fun c => decode_of_reserved, fun op a b x B hop => ?_⟩
  · by_contra hreserved
    rw [decode_of_reserved hreserved] at hi
    cases hi
  · by_cases hknown : op ∈ opCodes
    · obtain ⟨i, hi⟩ := exists_selects hknown a x B
      rw [hi.decode_eq, (hi.of_unused_sid hop b).decode_eq]
    · rw [decode_of_reserved (by simpa using hknown), decode_of_reserved (by simpa using hknown)]

/-! #### Both forms -/

/-- Settles O51: a message reads back by its header vector's fields, a command by R73's table; only a message's payload
length has to be tested (R61). -/
theorem decodeEncodeRoundTrip : Obligations.DecodeEncodeRoundTrip := by
  intro c i hwf
  cases i with
  | msgClientHello sid f P => exact decode_encode_messageInstr .clientHello sid hwf
  | msgClientJoinRequest sid f P => exact decode_encode_messageInstr .clientJoinRequest sid hwf
  | msgClientReady sid f P => exact decode_encode_messageInstr .clientReady sid hwf
  | msgClientPing sid f P => exact decode_encode_messageInstr .clientPing sid hwf
  | msgClientInput sid f P => exact decode_encode_messageInstr .clientInput sid hwf
  | msgSnapshot sid f P => exact decode_encode_messageInstr .snapshot sid hwf
  | msgLevelInit sid f P => exact decode_encode_messageInstr .levelInit sid hwf
  | crcGen B => exact Selects.crcGen.decode_eq
  | crcChk B e => exact Selects.crcChk.decode_eq
  | hdrEnc pt mt sq tk ps => exact Selects.hdrEnc.decode_eq
  | hdrDec B => exact Selects.hdrDec.decode_eq
  | frmAsm pt mt sq tk P => exact Selects.frmAsm.decode_eq
  | frmParse B => exact Selects.frmParse.decode_eq
  | frmPong sq tk => exact Selects.frmPong.decode_eq
  | hsMsg sid m sq tk => exact Selects.hsMsg.decode_eq
  | hsQry sid => exact Selects.hsQry.decode_eq
  | hsRst sid => exact Selects.hsRst.decode_eq
  | hsTouch sid => exact Selects.hsTouch.decode_eq
  | trkNext sid => exact Selects.trkNext.decode_eq
  | trkRst sid => exact Selects.trkRst.decode_eq
  | rxDgram sid B => exact Selects.rxDgram.decode_eq

/-- Settles O54: closed words, evaluated by the decoder. -/
theorem writtenWordsDecode : Obligations.WrittenWordsDecode :=
  ⟨rfl, rfl, rfl, rfl, rfl, rfl, rfl, rfl, rfl, rfl⟩

/-! #### The two errors of the command set (R75, R76) -/

/-- Past R41's test of `IBUF`, a command that does not decode raises the decoder's status. -/
theorem runCommand_of_decode_error {c : Command} {s : State} {e : Status} (hfits : c.ibuf.length ≤ s.bufMax)
    (hdecode : decode (.command c) = .error e) : runCommand c s = .next (s.answer (errorResponse e) []) := by
  rw [runCommand, State.withInput_fits hfits, hdecode]
  rfl

/-- Settles O46: a reserved `op` does not decode, and the rest of the 256 values are counted. -/
theorem reservedOpcodesAnswerBadCommand : Obligations.ReservedOpcodesAnswerBadCommand := by
  refine ⟨fun s c rest hscript hfits hop => ?_, by decide +kernel⟩
  have hfits' : c.ibuf.length ≤ ({ s with script := rest } : State).bufMax := hfits
  rw [step_of_script_command hscript, runCommand_of_decode_error hfits' (decode_of_reserved hop)]
  rfl

/-- A message whose frame is accepted raises `BadSession` on an absent slot, as `RX.DGRAM` of that frame does (log 4). -/
theorem State.withMessage_none {s : State} {sid : Sid} {P : Bytes} (hs : s.slot? sid = none)
    (hfits : frameFits s.config P = true) (k : Slot → Host.Outcome State Fault Refusal) :
    s.withMessage sid P k = .next (s.answer (errorResponse .badSession) []) := by
  have hmessage : s.withMessage sid P k = s.withSlot sid k := State.withInput_fits (frameFits_iff.mp hfits) _
  rw [hmessage, State.withSlot_none hs]

theorem execRxDgram_of_slot?_eq_none {sid : Sid} {B : Bytes} {s : State} (hs : s.slot? sid = none)
    (hfits : ibufFits s.config B = true) : execRxDgram sid B s = .next (s.answer (errorResponse .badSession) []) := by
  rw [execRxDgram, State.withInput_fits (ibufFits_iff.mp hfits), State.withSlot_none hs]

/-- The slot is looked up before all else but the length of the buffers. -/
theorem exec_of_slot?_eq_none {i : Instr} {sid : Sid} {s : State} (hi : instrSlot i = some sid)
    (hfits : instrFits s.config i = true) (hs : s.slot? sid = none) :
    exec i s = .next (s.answer (errorResponse .badSession) []) := by
  cases i with
  | msgClientHello _ f P => cases hi; exact State.withMessage_none hs hfits _
  | msgClientJoinRequest _ f P => cases hi; exact State.withMessage_none hs hfits _
  | msgClientReady _ f P => cases hi; exact State.withMessage_none hs hfits _
  | msgClientPing _ f P => cases hi; exact State.withMessage_none hs hfits _
  | msgClientInput _ f P => cases hi; exact State.withMessage_none hs hfits _
  | msgSnapshot _ f P => cases hi; exact State.withMessage_none hs hfits _
  | msgLevelInit _ f P => cases hi; exact State.withMessage_none hs hfits _
  | hsMsg _ m q u => cases hi; exact State.withSlot_none hs _
  | hsQry _ => cases hi; exact State.withSlot_none hs _
  | hsRst _ => cases hi; exact State.withSlot_none hs _
  | hsTouch _ => cases hi; exact State.withSlot_none hs _
  | trkNext _ => cases hi; exact State.withSlot_none hs _
  | trkRst _ => cases hi; exact State.withSlot_none hs _
  | rxDgram _ B => cases hi; exact execRxDgram_of_slot?_eq_none hs hfits
  | _ => cases hi

/-- Settles O19: an absent slot is found before anything else of the command is looked at; 8 bits reach 256 slots. -/
theorem badSessionBeforeEveryOtherTest : Obligations.BadSessionBeforeEveryOtherTest := by
  refine ⟨fun i sid s hi hfits habsent => ?_, fun sid s hall => ?_⟩
  · exact exec_of_slot?_eq_none hi hfits ((State.slot?_eq_none s sid).mpr habsent)
  · have hlt : sid.toNat < s.slots.length := hall ▸ sid.isLt
    exact ⟨s.slots[sid.toNat], List.getElem?_eq_getElem hlt⟩

end Sys2Proof.Machine

/-! ### The checksum (`41_crc32.md`) -/

namespace Sys2Proof.Machine
open Sys2Proof.Safety

/-! #### The bit step is linear and loses nothing (R91, R96) -/

theorem crcBit_eq_xor (a : U32) : crcBit a = (a >>> 1) ^^^ (bif a.getLsbD 0 then crcPoly else 0#32) := by
  rw [crcBit]
  cases a.getLsbD 0 <;> simp

/-- The polynomial's top bit is set, so the bit shifted out stands at the top of the result. -/
theorem crcBit_getLsbD_top (a : U32) : (crcBit a).getLsbD 31 = a.getLsbD 0 := by
  rw [crcBit_eq_xor]
  cases a.getLsbD 0 <;> simp [crcPoly]

theorem crcBit_of_getLsbD_zero {a : U32} (h : a.getLsbD 0 = false) : crcBit a = a >>> 1 := by
  rw [crcBit_eq_xor, h, cond_false, BitVec.xor_zero]

/-- The top bit of the result says whether the polynomial was added; without it the result is the shift. -/
theorem crcBit_injective : Function.Injective crcBit := by
  intro a b h
  have hout : a.getLsbD 0 = b.getLsbD 0 := by rw [← crcBit_getLsbD_top a, h, crcBit_getLsbD_top b]
  have hshift : a >>> 1 = b >>> 1 := by
    rw [crcBit_eq_xor, crcBit_eq_xor, hout] at h
    exact (BitVec.xor_left_inj _).mp h
  refine BitVec.eq_of_getLsbD_eq fun i _ => ?_
  cases i with
  | zero => exact hout
  | succ i => simpa [Nat.add_comm 1 i] using congrArg (·.getLsbD i) hshift

theorem xor_xor_xor_comm (a b c d : U32) : (a ^^^ b) ^^^ (c ^^^ d) = (a ^^^ c) ^^^ (b ^^^ d) := by ac_rfl

/-- Of two polynomials added at once nothing is left, as of two set bits. -/
theorem crcBit_xor (a b : U32) : crcBit (a ^^^ b) = crcBit a ^^^ crcBit b := by
  simp only [crcBit_eq_xor]
  rw [BitVec.getLsbD_xor, BitVec.ushiftRight_xor_distrib, xor_xor_xor_comm]
  congr 1
  cases a.getLsbD 0 <;> cases b.getLsbD 0 <;> simp

theorem crcBits_eq_iterate (n : Nat) : crcBits n = crcBit^[n] := by
  induction n with
  | zero => rfl
  | succ n ih => rw [Function.iterate_succ, ← ih]; rfl

theorem crcBits_add (m n : Nat) (a : U32) : crcBits (m + n) a = crcBits m (crcBits n a) := by
  simp only [crcBits_eq_iterate, Function.iterate_add_apply]

theorem crcBits_injective (n : Nat) : Function.Injective (crcBits n) :=
  crcBits_eq_iterate n ▸ crcBit_injective.iterate n

theorem crcBits_xor (n : Nat) (a b : U32) : crcBits n (a ^^^ b) = crcBits n a ^^^ crcBits n b := by
  induction n generalizing a b with
  | zero => rfl
  | succ n ih => rw [crcBits, crcBit_xor, ih]; rfl

theorem crcBits_zero (n : Nat) : crcBits n 0#32 = 0#32 := by
  rw [crcBits_eq_iterate]
  exact Function.iterate_fixed (by decide) n

theorem crcBits_ne_zero {n : Nat} {a : U32} (h : a ≠ 0#32) : crcBits n a ≠ 0#32 :=
  (crcBits_injective n).ne_iff' (crcBits_zero n) |>.mpr h

/-- Bit steps that shift out only zeros are a shift. -/
theorem crcBits_of_low_bits_zero {n : Nat} {a : U32} (h : ∀ i < n, a.getLsbD i = false) :
    crcBits n a = a >>> n := by
  induction n generalizing a with
  | zero => simp [crcBits]
  | succ n ih =>
    have hrest : ∀ i < n, (a >>> 1).getLsbD i = false := fun i hi => by
      rw [BitVec.getLsbD_ushiftRight]; exact h _ (by omega)
    calc crcBits (n + 1) a = crcBits n (a >>> 1) := by rw [crcBits, crcBit_of_getLsbD_zero (h 0 (by omega))]
      _ = a >>> 1 >>> n := ih hrest
      _ = a >>> (n + 1) := by rw [← BitVec.shiftRight_add, Nat.add_comm]

/-- Eight bit steps change every byte: shifted up to where its first 24 steps are plain shifts, a byte they left alone would be
its own shift by eight. -/
theorem crcBits_byte_ne {d : Byte} (hd : d ≠ 0#8) : crcBits 8 (d.setWidth 32) ≠ d.setWidth 32 := by
  intro hfix
  have hup : crcBits 24 (d.setWidth 32 <<< 24) = d.setWidth 32 := by
    rw [crcBits_of_low_bits_zero (by simp; omega)]
    bv_omega
  have hfix24 : crcBits 24 (crcBits 8 (d.setWidth 32 <<< 24)) = crcBits 24 (d.setWidth 32 <<< 24) := by
    rw [← crcBits_add, Nat.add_comm, crcBits_add, hup, hfix]
  have hfix8 := crcBits_injective 24 hfix24
  rw [crcBits_of_low_bits_zero (by simp; omega)] at hfix8
  bv_omega

/-! #### Two runs of the checksum and their difference -/

theorem crcByte_xor_crcByte (a b : U32) (x y : Byte) :
    crcByte a x ^^^ crcByte b y = crcBits 8 ((a ^^^ b) ^^^ (x ^^^ y).setWidth 32) := by
  rw [crcByte, crcByte, ← crcBits_xor, BitVec.setWidth_xor]
  congr 1
  ac_rfl

/-- What two accumulators differ by goes through the same bytes as through as many zeros. -/
theorem crcFold_xor_crcFold (a b : U32) (bs : Bytes) :
    crcFold a bs ^^^ crcFold b bs = crcBits (8 * bs.length) (a ^^^ b) := by
  induction bs generalizing a b with
  | nil => rfl
  | cons x bs ih =>
    calc crcFold (crcByte a x) bs ^^^ crcFold (crcByte b x) bs
        = crcBits (8 * bs.length) (crcByte a x ^^^ crcByte b x) := ih _ _
      _ = crcBits (8 * bs.length) (crcBits 8 (a ^^^ b)) := by rw [crcByte_xor_crcByte]; simp
      _ = crcBits (8 * (x :: bs).length) (a ^^^ b) := by rw [← crcBits_add, List.length_cons, Nat.mul_succ]

/-- Two sequences with the same beginning and the same end: the CRCs differ by what the middles differ by, put through the bit
steps of the end. -/
theorem crc32_xor_crc32 (A M N C : Bytes) :
    crc32 (A ++ M ++ C) ^^^ crc32 (A ++ N ++ C) =
      crcBits (8 * C.length) (crcFold (crcFold crcInit A) M ^^^ crcFold (crcFold crcInit A) N) := by
  simp only [crc32, crcFold_append, ← crcFold_xor_crcFold]
  rw [xor_xor_xor_comm, BitVec.xor_self, BitVec.xor_zero]

theorem crc32_xor_crc32_of_replace (A C : Bytes) (x y : Byte) :
    crc32 (A ++ [x] ++ C) ^^^ crc32 (A ++ [y] ++ C) = crcBits (8 * (C.length + 1)) ((x ^^^ y).setWidth 32) := by
  rw [crc32_xor_crc32, Nat.mul_succ, crcBits_add]
  congr 1
  calc crcByte (crcFold crcInit A) x ^^^ crcByte (crcFold crcInit A) y = _ := crcByte_xor_crcByte _ _ x y
    _ = crcBits 8 ((x ^^^ y).setWidth 32) := by simp

/-- The first of the two bytes puts the difference through eight steps, the second adds it again. -/
theorem crc32_xor_crc32_of_swap (A C : Bytes) (x y : Byte) :
    crc32 (A ++ [x, y] ++ C) ^^^ crc32 (A ++ [y, x] ++ C) =
      crcBits (8 * (C.length + 1)) (crcBits 8 ((x ^^^ y).setWidth 32) ^^^ (x ^^^ y).setWidth 32) := by
  rw [crc32_xor_crc32, Nat.mul_succ, crcBits_add]
  congr 1
  generalize crcFold crcInit A = acc
  calc crcByte (crcByte acc x) y ^^^ crcByte (crcByte acc y) x
      = crcBits 8 ((crcByte acc x ^^^ crcByte acc y) ^^^ (y ^^^ x).setWidth 32) := crcByte_xor_crcByte _ _ y x
    _ = crcBits 8 (crcBits 8 ((x ^^^ y).setWidth 32) ^^^ (x ^^^ y).setWidth 32) := by
      rw [crcByte_xor_crcByte, BitVec.xor_self, BitVec.zero_xor, BitVec.xor_comm y x]

theorem xor_ne_zero_iff {w : Nat} {a b : BitVec w} : a ^^^ b ≠ 0#w ↔ a ≠ b := BitVec.xor_eq_zero_iff.not

theorem setWidth_byte_ne_zero {d : Byte} (h : d ≠ 0#8) : d.setWidth 32 ≠ 0#32 := fun h' => h (by bv_omega)

theorem crc32_replace_ne (A C : Bytes) {x y : Byte} (h : x ≠ y) : crc32 (A ++ [x] ++ C) ≠ crc32 (A ++ [y] ++ C) := by
  rw [← xor_ne_zero_iff, crc32_xor_crc32_of_replace]
  exact crcBits_ne_zero (setWidth_byte_ne_zero (xor_ne_zero_iff.mpr h))

theorem crc32_swap_ne (A C : Bytes) {x y : Byte} (h : x ≠ y) :
    crc32 (A ++ [x, y] ++ C) ≠ crc32 (A ++ [y, x] ++ C) := by
  rw [← xor_ne_zero_iff, crc32_xor_crc32_of_swap]
  exact crcBits_ne_zero (xor_ne_zero_iff.mpr (crcBits_byte_ne (xor_ne_zero_iff.mpr h)))

/-! #### The commands (R92, R93) -/

theorem execCrcGen_fits (B : Bytes) (s : State) (hfits : B.length ≤ s.bufMax) :
    execCrcGen B s = .next (s.answer { status := .ok, crc := some (crc32 B) } []) := by
  rw [execCrcGen, State.withInput_fits hfits, State.respond_fits (Nat.zero_le _)]

theorem execCrcChk_fits (B : Bytes) (e : U32) (s : State) (hfits : B.length ≤ s.bufMax) :
    execCrcChk B e s = .next (s.answer { status := .ok, ok := some (decide (crc32 B = e)) } []) := by
  rw [execCrcChk, State.withInput_fits hfits, State.respond_fits (Nat.zero_le _)]

theorem crc32_nil : crc32 [] = 0 := by decide

/-- Settles O1: the checksum is linear, so the difference of two CRCs is the image of the difference of the inputs under bit
steps, which are injective. -/
theorem crcGenAnswersTheChecksum : Obligations.CrcGenAnswersTheChecksum :=
  ⟨execCrcGen_fits, crc32_nil, by decide +kernel, fun A C _ _ => crc32_replace_ne A C, fun A C _ _ => crc32_swap_ne A C⟩

/-- Settles O2: both outcomes of the comparison are one answer, and R41's test of `IBUF` is the only other. -/
theorem crcChkComparesAndNeverFails : Obligations.CrcChkComparesAndNeverFails :=
  ⟨execCrcChk_fits, crc32_nil, by decide +kernel, by decide +kernel⟩

/-! #### The table form of the byte step (R95) -/

/-- The part above the low byte only shifts; the low byte is the table's index. -/
theorem crcBits_eight (a : U32) : crcBits 8 a = (a >>> 8) ^^^ crcBits 8 ((a.extractLsb' 0 8).setWidth 32) := by
  have hsplit : a = (a >>> 8 <<< 8) ^^^ (a.extractLsb' 0 8).setWidth 32 := by
    refine BitVec.eq_of_getLsbD_eq fun i hi => ?_
    by_cases h : i < 8
    · simp [h, hi]
    · simp [h, hi, Nat.add_sub_of_le (not_lt.mp h)]
  have hhigh : crcBits 8 (a >>> 8 <<< 8) = a >>> 8 := by
    rw [crcBits_of_low_bits_zero fun i hi => by simp [hi]]
    bv_omega
  calc crcBits 8 a = crcBits 8 ((a >>> 8 <<< 8) ^^^ (a.extractLsb' 0 8).setWidth 32) := congrArg (crcBits 8) hsplit
    _ = (a >>> 8) ^^^ crcBits 8 ((a.extractLsb' 0 8).setWidth 32) := by rw [crcBits_xor, hhigh]

/-- Settles O33: the byte enters below the accumulator's top 24 bits, which only shift. -/
theorem crcByteStepIsTheTableForm : Obligations.CrcByteStepIsTheTableForm := by
  refine ⟨fun acc b => ?_, by decide +kernel⟩
  have hhigh : (acc ^^^ b.setWidth 32) >>> 8 = acc >>> 8 := by
    rw [BitVec.ushiftRight_xor_distrib, show b.setWidth 32 >>> 8 = 0#32 by bv_omega, BitVec.xor_zero]
  rw [crcByte, crcBits_eight, hhigh]

/-! #### Single-bit errors (R96) -/

theorem twoPow_byte_ne_zero {i : Nat} (h : i < 8) : BitVec.twoPow 8 i ≠ 0#8 := by
  intro hzero
  simpa [h] using congrArg (·.getLsbD i) hzero

/-- The difference one inverted bit makes: its place in its byte, put through the steps from that byte to the end. -/
theorem crc32_flipBit_xor {B : Bytes} {k : Nat} (h : k < 8 * B.length) :
    crc32 (flipBit B k) ^^^ crc32 B = crcBits (8 * (B.length - k / 8)) ((BitVec.twoPow 8 (k % 8)).setWidth 32) := by
  have hk : k / 8 < B.length := by omega
  have hB : B = B.take (k / 8) ++ [B[k / 8]] ++ B.drop (k / 8 + 1) := by simp
  have hflip : flipBit B k =
      B.take (k / 8) ++ [B[k / 8] ^^^ BitVec.twoPow 8 (k % 8)] ++ B.drop (k / 8 + 1) := by
    rw [flipBit, List.modify_eq_take_cons_drop hk]; simp
  have hend : (B.drop (k / 8 + 1)).length + 1 = B.length - k / 8 := by rw [List.length_drop]; omega
  calc crc32 (flipBit B k) ^^^ crc32 B
      = _ := congrArg₂ (crc32 · ^^^ crc32 ·) hflip hB
    _ = _ := crc32_xor_crc32_of_replace _ _ _ _
    _ = _ := by rw [hend, BitVec.xor_comm B[k / 8], BitVec.xor_assoc, BitVec.xor_self, BitVec.xor_zero]

/-- Settles O34: the difference is the image of one set bit under injective bit steps, as many as the bit's distance from the
end. -/
theorem crcDetectsEverySingleBitError : Obligations.CrcDetectsEverySingleBitError := by
  refine ⟨fun B k hk => ?_, fun B C k j hk hj hbit hend => ?_⟩
  · rw [← xor_ne_zero_iff, crc32_flipBit_xor hk]
    exact crcBits_ne_zero (setWidth_byte_ne_zero (twoPow_byte_ne_zero (Nat.mod_lt k (by decide))))
  · rw [crc32_flipBit_xor hk, crc32_flipBit_xor hj, hbit, hend]

end Sys2Proof.Machine

/-! ### The Header Codec (`42_header_codec.md`) -/

namespace Sys2Proof.Machine
open Sys2Proof.Safety

/-! #### Big-endian fields (`00_scope.md` R12) -/

@[simp] theorem unbe16_be16 (v : U16) : unbe16 (be16 v) = v :=
  BitVec.extractLsb'_append_extractLsb' (w := 8) (len := 8)

@[simp] theorem unbe32_be32 (v : U32) : unbe32 (be32 v) = v := by
  simp only [be32, unbe32]
  iterate 3 rw [BitVec.extractLsb'_append_extractLsb'_eq_extractLsb' (by decide)]
  exact BitVec.extractLsb'_eq_self

theorem be16_unbe16 {b : Bytes} (h : b.length = 2) : be16 (unbe16 b) = b := by
  obtain ⟨x, y, rfl⟩ := List.length_eq_two.mp h
  simp (disch := decide) only [be16, unbe16, BitVec.extractLsb'_append_eq_of_le, Nat.reduceSub,
    BitVec.extractLsb'_append_eq_right, BitVec.extractLsb'_eq_self]

theorem be32_unbe32 {b : Bytes} (h : b.length = 4) : be32 (unbe32 b) = b := by
  match b, h with
  | [x, y, z, w], _ =>
    simp (disch := decide) only [be32, unbe32, BitVec.extractLsb'_append_eq_of_le, Nat.reduceSub,
      BitVec.extractLsb'_append_eq_right, BitVec.extractLsb'_eq_self]

theorem bytesToNats_append (a b : Bytes) : bytesToNats (a ++ b) = bytesToNats a ++ bytesToNats b := List.map_append

theorem bytesToNats_be16 (v : U16) : bytesToNats (be16 v) = octets 2 v.toNat := by
  simp [bytesToNats, be16, octets, Nat.shiftRight_eq_div_pow]

theorem bytesToNats_be32 (v : U32) : bytesToNats (be32 v) = octets 4 v.toNat := by
  simp [bytesToNats, be32, octets, Nat.shiftRight_eq_div_pow]

/-! #### Operand widths (`30_encoding.md` R70) -/

theorem reduce16_eq_ofNat (v : U32) : reduce16 v = BitVec.ofNat 16 v.toNat := (BitVec.ofNat_toNat 16 v).symm

theorem zext32_eq_ofNat (v : U16) : zext32 v = BitVec.ofNat 32 v.toNat := (BitVec.ofNat_toNat 32 v).symm

@[simp] theorem toNat_reduce16 (v : U32) : (reduce16 v).toNat = v.toNat % 2 ^ 16 := BitVec.toNat_setWidth 16 v

@[simp] theorem reduce16_zext32 (v : U16) : reduce16 (zext32 v) = v :=
  BitVec.setWidth_setWidth_of_le v (by decide)

/-! #### Reads of adjacent offsets (`20_memory.md` R44) -/

theorem memRead_add (b : Bytes) (start m n : Nat) :
    memRead b start (m + n) = memRead b start m ++ memRead b (start + m) n := by
  simp only [memRead, List.take_add, List.drop_drop]

theorem memRead_one {b : Bytes} {start : Nat} (h : start < b.length) : memRead b start 1 = [memByte b start] := by
  rw [memRead_succ h]; rfl

/-! #### `encodeHeader` (R101) -/

/-- The header's layout in natural numbers, each operand reduced to its width (R60, R70). -/
theorem bytesToNats_encodeHeader (pt mt : Byte) (sq tk ps : U32) :
    bytesToNats (encodeHeader pt mt sq tk ps) =
      headerOctets pt.toNat mt.toNat (sq.toNat % 2 ^ 16) (tk.toNat % 2 ^ 32) (ps.toNat % 2 ^ 16) := by
  have hfixed : bytesToNats (magicBytes ++ [versionByte] ++ [pt] ++ [mt]) =
      [0xA3, 0x5F, 0xC8, 0x1D, 1, pt.toNat, mt.toNat] := by rw [magicBytes_eq]; rfl
  rw [encodeHeader, bytesToNats_append, bytesToNats_append, bytesToNats_append, hfixed, bytesToNats_be16,
    bytesToNats_be32, bytesToNats_be16, toNat_reduce16, toNat_reduce16, Nat.mod_eq_of_lt tk.isLt]
  rfl

theorem exec_hdrEnc_fits (pt mt : Byte) (sq tk ps : U32) {s : State} (hfits : 15 ≤ s.bufMax) :
    exec (.hdrEnc pt mt sq tk ps) s = .next (s.answer { status := .ok, obuf := encodeHeader pt mt sq tk ps } []) := by
  change s.respond _ [] = _
  rw [memWrite_empty, State.respond_fits (by simpa using hfits)]

/-- Settles O3: the bytes are `encodeHeader`'s. -/
theorem hdrEncPacksFifteenBytes : Obligations.HdrEncPacksFifteenBytes := fun pt mt sq tk ps _ hfits =>
  ⟨encodeHeader pt mt sq tk ps, exec_hdrEnc_fits pt mt sq tk ps hfits, encodeHeader_length pt mt sq tk ps,
    bytesToNats_encodeHeader pt mt sq tk ps⟩

/-! #### `decodeHeader` (R104) -/

/-- Comparing the first four bytes with `MAGIC` is comparing numbers, since four bytes and their number determine each
other. -/
theorem memRead_eq_magicBytes_iff {b : Bytes} (h : 4 ≤ b.length) :
    memRead b 0 4 = magicBytes ↔ numberAt b 0 4 = 0xA35FC81D := by
  constructor
  · intro hmagic
    rw [← unbe32_memRead h, hmagic, magicBytes, unbe32_be32]
    rfl
  · intro hnumber
    have hword : unbe32 (memRead b 0 4) = magicWord := by rw [unbe32_memRead_eq_ofNat h, hnumber]; rfl
    rw [← be32_unbe32 (memRead_length h), hword, magicBytes]

theorem memByte_eq_versionByte_iff (b : Bytes) : memByte b 4 = versionByte ↔ numberAt b 4 1 = 1 := by
  rw [numberAt_one, BitVec.toNat_eq]; rfl

/-- The three tests and the seven fields in natural numbers. -/
theorem decodeHeader_eq (b : Bytes) :
    decodeHeader b =
      if b.length < 15 then .error .tooShort
      else if numberAt b 0 4 ≠ 0xA35FC81D then .error .badMagic
      else if numberAt b 4 1 ≠ 1 then .error .unsupportedVersion
      else .ok (headerAt b) := by
  by_cases hshort : b.length < 15
  · simp only [decodeHeader, hdrLen, hshort, if_true]
  · have hlen : 15 ≤ b.length := not_lt.mp hshort
    have hmagic := memRead_eq_magicBytes_iff (b := b) (by omega)
    simp only [decodeHeader, hdrLen, hshort, if_false, ne_eq, hmagic, memByte_eq_versionByte_iff,
      headerFields_eq_headerAt hlen]

/-- The response to what `decodeHeader` gives (R104). -/
def headerResponse : Except Status Header → Response
  | .error e => errorResponse e
  | .ok h => { status := .ok, hdr := some h }

theorem exec_hdrDec_fits {B : Bytes} {s : State} (hfits : B.length ≤ s.bufMax) :
    exec (.hdrDec B) s = .next (s.answer (headerResponse (decodeHeader B)) []) := by
  change s.withInput B.length _ = _
  rw [State.withInput_fits hfits]
  cases decodeHeader B with
  | error e => rfl
  | ok h => exact State.respond_fits (Nat.zero_le _) []

/-- A response with a header comes from an accepted buffer: an error's response has none. -/
theorem headerResponse_eq_ok {d : Except Status Header} {h : Header}
    (hd : headerResponse d = { status := .ok, hdr := some h }) : d = .ok h := by
  cases d with
  | error e => cases hd
  | ok h' => cases hd; rfl

/-- Settles O4: the model's tests on bytes are the statement's on numbers, in the same order. -/
theorem hdrDecTestsThenReturnsSevenFields : Obligations.HdrDecTestsThenReturnsSevenFields := by
  intro B s hfits
  rw [exec_hdrDec_fits hfits, decodeHeader_eq]
  split_ifs <;> rfl

/-! #### The round trip (R106) -/

theorem headerFields_encodeHeader_append (pt mt : Byte) (sq tk ps : U32) (rest : Bytes) :
    headerFields (encodeHeader pt mt sq tk ps ++ rest) = wireHeader pt mt (reduce16 sq) tk (reduce16 ps) := by
  calc headerFields (encodeHeader pt mt sq tk ps ++ rest)
      = ⟨unbe32 (be32 magicWord), versionByte, pt, mt, unbe16 (be16 (reduce16 sq)), unbe32 (be32 tk),
          unbe16 (be16 (reduce16 ps))⟩ := rfl
    _ = wireHeader pt mt (reduce16 sq) tk (reduce16 ps) := by simp only [unbe16_be16, unbe32_be32]; rfl

/-- A written header reads back, whatever follows it. -/
theorem decodeHeader_encodeHeader_append (pt mt : Byte) (sq tk ps : U32) (rest : Bytes) :
    decodeHeader (encodeHeader pt mt sq tk ps ++ rest) = .ok (wireHeader pt mt (reduce16 sq) tk (reduce16 ps)) := by
  have hlen : ¬ (encodeHeader pt mt sq tk ps ++ rest).length < hdrLen := by simp [hdrLen]
  have hmagic : memRead (encodeHeader pt mt sq tk ps ++ rest) 0 4 = magicBytes := rfl
  have hversion : memByte (encodeHeader pt mt sq tk ps ++ rest) 4 = versionByte := rfl
  rw [decodeHeader, if_neg hlen, if_neg (not_not.mpr hmagic), if_neg (not_not.mpr hversion),
    headerFields_encodeHeader_append]

/-- The seven fields of R60 leave no byte of a header out. -/
theorem take_eq_headerParts {b : Bytes} (h : 15 ≤ b.length) :
    b.take 15 = memRead b 0 4 ++ [memByte b 4] ++ [memByte b 5] ++ [memByte b 6] ++ memRead b 7 2 ++ memRead b 9 4 ++
      memRead b 13 2 := by
  calc b.take 15 = memRead b 0 (4 + 1 + 1 + 1 + 2 + 4 + 2) := rfl
    _ = _ := by
      iterate 6 rw [memRead_add]
      simp (disch := omega) only [Nat.reduceAdd, memRead_one]

/-- An accepted buffer begins with the header written from its fields. -/
theorem encodeHeader_of_decodeHeader_ok {b : Bytes} {h : Header} (hd : decodeHeader b = .ok h) :
    encodeHeader h.ptype h.mtype (zext32 h.seq) h.tick (zext32 h.psize) = b.take 15 := by
  obtain ⟨hlen, hmagic, hversion, rfl⟩ := decodeHeader_ok hd
  have hseq : be16 (unbe16 (memRead b 7 2)) = memRead b 7 2 := be16_unbe16 (memRead_length (by omega))
  have htick : be32 (unbe32 (memRead b 9 4)) = memRead b 9 4 := be32_unbe32 (memRead_length (by omega))
  have hpsize : be16 (unbe16 (memRead b 13 2)) = memRead b 13 2 := be16_unbe16 (memRead_length (by omega))
  rw [take_eq_headerParts hlen, encodeHeader, reduce16_zext32, reduce16_zext32, ← hmagic, ← hversion]
  simp only [headerFields, hseq, htick, hpsize]

/-- Settles O35: `OBUF` is `encodeHeader`'s, which `decodeHeader` accepts and takes apart. -/
theorem headerRoundTrip : Obligations.HeaderRoundTrip := by
  intro pt mt sq tk ps s hfits
  refine ⟨_, encodeHeader pt mt sq tk ps, exec_hdrEnc_fits pt mt sq tk ps hfits, rfl, ?_⟩
  have hdecode := decodeHeader_encodeHeader_append pt mt sq tk ps []
  rw [List.append_nil] at hdecode
  rw [exec_hdrDec_fits (by simpa using hfits), hdecode, reduce16_eq_ofNat, reduce16_eq_ofNat]
  rfl

/-- Settles O36: the tests have fixed the magic and the version, and the five other fields are the other ten bytes. -/
theorem headerRoundTripConverse : Obligations.HeaderRoundTripConverse := by
  intro B s t h hlen hfits ht hresp
  rw [exec_hdrDec_fits (by omega)] at ht
  cases ht
  have hdecode : decodeHeader B = .ok h := headerResponse_eq_ok (Option.some.inj hresp)
  rw [exec_hdrEnc_fits _ _ _ _ _ hfits, ← zext32_eq_ofNat, ← zext32_eq_ofNat, encodeHeader_of_decodeHeader_ok hdecode,
    List.take_of_length_le hlen.le]

end Sys2Proof.Machine

/-! ### The messages handed to the host (`43_payloads.md` R113) -/

namespace Sys2Proof.Machine
open Sys2Proof.Safety

/-- The fixed fields of a message's header are those of every header on the wire (`30_encoding.md` R60, R63). -/
theorem messageHeader_eq_wireHeader (m : MsgType) (f : MsgFields) :
    messageHeader m f = wireHeader f.ptype (msgCode m) f.seq f.tick f.psize := rfl

/-- The `DELIVER` arm answers whenever the payload fits `OBUF`; the handshake state is reported and not tested
(`46_tracker_rx.md` R160). -/
theorem State.deliver_fits {s : State} {p : Bytes} (hp : p.length ≤ s.bufMax) (sl : Slot) (h : Header) :
    s.deliver sl h p =
      .next (s.answer { sessionResponse sl.hs with kind := some .deliver, hdr := some h, obuf := p } []) := by
  rw [State.deliver, memWrite_empty, State.respond_fits hp]

/-- A delivered message on an existing slot: a frame that fits `BUF_MAX` carries a payload that does. -/
theorem State.withMessage_deliver_fits {s : State} {sid : Sid} {sl : Slot} {P : Bytes} (hs : s.slot? sid = some sl)
    (hfits : P.length + 19 ≤ s.bufMax) (m : MsgType) (f : MsgFields) :
    s.withMessage sid P (fun sl => s.deliver sl (messageHeader m f) P) =
      .next (s.answer
        { sessionResponse sl.hs with
          kind := some .deliver, hdr := some (wireHeader f.ptype (msgCode m) f.seq f.tick f.psize), obuf := P } []) := by
  have hpayload : P.length ≤ s.bufMax := by omega
  rw [State.withMessage_fits hs hfits, State.deliver_fits hpayload, messageHeader_eq_wireHeader]

/-- Settles O17: the three rows are one delivery, which differs only in the registered code it reports. -/
theorem otherMessagesAreDelivered : Obligations.OtherMessagesAreDelivered := by
  intro sid f P s sl hs hfits
  have hdeliver := State.withMessage_deliver_fits hs hfits
  exact ⟨hdeliver .clientInput f, hdeliver .snapshot f, hdeliver .levelInit f⟩

end Sys2Proof.Machine

/-! ### The packet framer and parser (`44_framer.md`) -/

namespace Sys2Proof.Machine
open Sys2Proof.Safety

/-! #### `parse` (R124) -/

theorem declaredSize_eq_psize (b : Bytes) : (headerAt b).psize.toNat = declaredSize b := by
  have hlt : declaredSize b < 2 ^ 16 := by simp only [declaredSize, numberAt]; omega
  exact Nat.mod_eq_of_lt hlt

theorem decodeHeader_eq_headerVerdict (b : Bytes) :
    decodeHeader b = if headerVerdict b = .ok then .ok (headerAt b) else .error (headerVerdict b) := by
  rw [decodeHeader_eq, headerVerdict]
  split_ifs <;> simp_all

theorem headerVerdict_of_short {b : Bytes} (h : b.length < 15) : headerVerdict b = .tooShort := if_pos h

theorem headerVerdict_of_magic_ne {b : Bytes} (hlen : 15 ≤ b.length) (h : numberAt b 0 4 ≠ 0xA35FC81D) :
    headerVerdict b = .badMagic := by
  rw [headerVerdict, if_neg hlen.not_gt, if_pos h]

theorem headerVerdict_of_version_ne {b : Bytes} (hlen : 15 ≤ b.length) (hmagic : numberAt b 0 4 = 0xA35FC81D)
    (h : numberAt b 4 1 ≠ 1) : headerVerdict b = .unsupportedVersion := by
  rw [headerVerdict, if_neg hlen.not_gt, if_neg (not_not.mpr hmagic), if_pos h]

theorem headerVerdict_eq_ok_iff {b : Bytes} :
    headerVerdict b = .ok ↔ 15 ≤ b.length ∧ numberAt b 0 4 = 0xA35FC81D ∧ numberAt b 4 1 = 1 := by
  rw [headerVerdict]
  split_ifs with hshort hmagic hversion
  · simp [hshort.not_ge]
  · simp [hmagic]
  · simp [hversion]
  · simpa using ⟨not_lt.mp hshort, not_not.mp hmagic, not_not.mp hversion⟩

/-- A header's error is its frame's. -/
theorem frameVerdict_of_headerVerdict {b : Bytes} {e : Status} (h : headerVerdict b = e) (he : e ≠ .ok) :
    frameVerdict b = e := by
  rw [frameVerdict, h, if_pos he]

section AcceptedHeader

variable {b : Bytes} (hheader : headerVerdict b = .ok)
include hheader

theorem frameVerdict_of_short (h : b.length < 19 + declaredSize b) : frameVerdict b = .tooShort := by
  rw [frameVerdict, if_neg (not_not.mpr hheader), if_pos h]

theorem frameVerdict_of_long (h : 19 + declaredSize b < b.length) : frameVerdict b = .payloadSizeMismatch := by
  rw [frameVerdict, if_neg (not_not.mpr hheader), if_neg (by omega), if_pos h]

theorem frameVerdict_of_checksum_ne (hlen : b.length = 19 + declaredSize b)
    (h : numberAt b (b.length - 4) 4 ≠ (crc32 (b.take (b.length - 4))).toNat) : frameVerdict b = .checksumMismatch := by
  rw [frameVerdict, if_neg (not_not.mpr hheader), if_neg hlen.not_lt, if_neg hlen.not_gt, if_pos h]

end AcceptedHeader

/-- What a frame that passes the tests is. -/
theorem frameVerdict_eq_ok_iff {b : Bytes} :
    frameVerdict b = .ok ↔ headerVerdict b = .ok ∧ b.length = 19 + declaredSize b ∧
      numberAt b (b.length - 4) 4 = (crc32 (b.take (b.length - 4))).toNat := by
  rw [frameVerdict]
  split_ifs with hheader hshort hlong hchecksum
  · simp [hheader]
  · simp [hshort.ne]
  · simp [hlong.ne']
  · simp [hchecksum]
  · simpa using ⟨not_not.mp hheader, by omega, not_not.mp hchecksum⟩

/-- `parse` gives the verdict of the tests and, where that is `OK`, the header and the payload. -/
theorem parse_eq (b : Bytes) :
    parse b = if frameVerdict b = .ok then .ok (headerAt b, payloadAt b) else .error (frameVerdict b) := by
  by_cases hheader : headerVerdict b = .ok
  · obtain ⟨hlen, -, -⟩ := headerVerdict_eq_ok_iff.mp hheader
    rw [parse, decodeHeader_eq_headerVerdict, if_pos hheader]
    simp only [hdrLen, trlLen, declaredSize_eq_psize, Nat.add_right_comm 15 _ 4, Nat.reduceAdd]
    obtain hshort | hexact | hlong := lt_trichotomy b.length (19 + declaredSize b)
    · rw [frameVerdict_of_short hheader hshort, if_pos hshort]
      rfl
    · have hchecksum : crc32 (memRead b 0 (b.length - 4)) = unbe32 (memRead b (b.length - 4) 4) ↔
          numberAt b (b.length - 4) 4 = (crc32 (b.take (b.length - 4))).toNat := by
        rw [eq_comm, BitVec.toNat_eq, unbe32_memRead (by omega)]
        rfl
      rw [if_neg hexact.not_lt, if_neg (not_not.mpr hexact)]
      simp only [ne_eq, hchecksum]
      by_cases hcrc : numberAt b (b.length - 4) 4 = (crc32 (b.take (b.length - 4))).toNat
      · rw [if_neg (not_not.mpr hcrc), if_pos (frameVerdict_eq_ok_iff.mpr ⟨hheader, hexact, hcrc⟩)]
        rfl
      · rw [if_pos hcrc, frameVerdict_of_checksum_ne hheader hexact hcrc]
        rfl
    · rw [frameVerdict_of_long hheader hlong, if_neg hlong.not_gt, if_pos hlong.ne']
      rfl
  · rw [parse, decodeHeader_eq_headerVerdict, if_neg hheader, frameVerdict_of_headerVerdict rfl hheader, if_neg hheader]

/-! #### The commands (R120, R124, R128) -/

theorem exec_frmAsm_fits (pt mt : Byte) (sq tk : U32) {P : Bytes} {s : State} (hfits : P.length + 19 ≤ s.bufMax) :
    exec (.frmAsm pt mt sq tk P) s = .next (s.answer { status := .ok, obuf := assemble pt mt sq tk P } []) := by
  change s.withInput P.length (s.respond _ []) = _
  rw [memWrite_empty, State.withInput_fits (by omega), State.respond_fits (by simpa using hfits)]

theorem exec_frmPong_fits (sq tk : U32) {s : State} (hfits : 19 ≤ s.bufMax) :
    exec (.frmPong sq tk) s = .next (s.answer { status := .ok, obuf := pong sq tk } []) := by
  change s.respond _ [] = _
  rw [memWrite_empty, State.respond_fits (by simpa using hfits)]

/-- The response of `FRM.PARSE` to a datagram: its verdict and, where that is `OK`, the header and the payload. -/
def parseResponse (b : Bytes) : Response :=
  if frameVerdict b = .ok then { status := .ok, hdr := some (headerAt b), obuf := payloadAt b }
  else errorResponse (frameVerdict b)

theorem parseResponse_of_ok {b : Bytes} (h : frameVerdict b = .ok) :
    parseResponse b = { status := .ok, hdr := some (headerAt b), obuf := payloadAt b } := if_pos h

theorem parseResponse_of_error {b : Bytes} {e : Status} (h : frameVerdict b = e) (he : e ≠ .ok) :
    parseResponse b = errorResponse e := by
  rw [parseResponse, h, if_neg he]

theorem parseResponse_status (b : Bytes) : (parseResponse b).status = frameVerdict b := by
  by_cases h : frameVerdict b = .ok
  · rw [parseResponse_of_ok h, h]
  · rw [parseResponse_of_error rfl h]; rfl

theorem payloadAt_length_le (b : Bytes) : (payloadAt b).length ≤ b.length := by
  rw [payloadAt, List.length_take, List.length_drop]; omega

theorem exec_frmParse_fits {B : Bytes} {s : State} (hfits : B.length ≤ s.bufMax) :
    exec (.frmParse B) s = .next (s.answer (parseResponse B) []) := by
  change s.withInput B.length _ = _
  rw [State.withInput_fits hfits, parse_eq]
  by_cases h : frameVerdict B = .ok
  · have hpayload := (payloadAt_length_le B).trans hfits
    rw [if_pos h, parseResponse_of_ok h]
    simp only [memWrite_empty]
    exact State.respond_fits hpayload []
  · rw [if_neg h, parseResponse_of_error rfl h]
    rfl

theorem exec_frmParse_rejects {B : Bytes} {s : State} {e : Status} (hfits : B.length ≤ s.bufMax)
    (h : frameVerdict B = e) (he : e ≠ .ok) : exec (.frmParse B) s = .next (s.answer (errorResponse e) []) := by
  rw [exec_frmParse_fits hfits, parseResponse_of_error h he]

theorem exec_frmParse_accepts {B : Bytes} {s : State} (hfits : B.length ≤ s.bufMax) (h : frameVerdict B = .ok) :
    exec (.frmParse B) s =
      .next (s.answer { status := .ok, hdr := some (headerAt B), obuf := payloadAt B } []) := by
  rw [exec_frmParse_fits hfits, parseResponse_of_ok h]

/-- What `FRM.PARSE` answered is the response to a datagram that R41 let pass. -/
theorem exec_frmParse_next {B : Bytes} {s t : State} {r : Response} (ht : exec (.frmParse B) s = .next t)
    (hr : t.resp = some r) : B.length ≤ s.bufMax ∧ r = parseResponse B := by
  have hfits : B.length ≤ s.bufMax := (State.withInput_next ht).1
  rw [exec_frmParse_fits hfits] at ht
  cases ht
  exact ⟨hfits, (Option.some.inj hr).symm⟩

/-! #### `assemble` (R120) -/

section Assemble

variable (pt mt : Byte) (sq tk : U32) (P : Bytes)

/-- A frame's header and payload, all that its trailer is the CRC of (R61). -/
def frameBody : Bytes := encodeHeader pt mt sq tk (BitVec.ofNat 32 P.length) ++ P

theorem frameBody_length : (frameBody pt mt sq tk P).length = P.length + 15 := by
  rw [frameBody, List.length_append, encodeHeader_length, Nat.add_comm]

theorem assemble_eq : assemble pt mt sq tk P = frameBody pt mt sq tk P ++ be32 (crc32 (frameBody pt mt sq tk P)) := rfl

theorem take_assemble : (assemble pt mt sq tk P).take (P.length + 15) = frameBody pt mt sq tk P :=
  List.take_left' (frameBody_length pt mt sq tk P)

theorem headerAt_assemble :
    headerAt (assemble pt mt sq tk P) = wireHeader pt mt (reduce16 sq) tk (reduce16 (BitVec.ofNat 32 P.length)) := by
  rw [← headerFields_eq_headerAt (by rw [assemble_length]; omega), assemble_eq, frameBody, List.append_assoc,
    headerFields_encodeHeader_append]

theorem headerVerdict_assemble : headerVerdict (assemble pt mt sq tk P) = .ok := by
  rw [assemble_eq, frameBody, List.append_assoc]
  exact headerVerdict_of_decodeHeader_ok (decodeHeader_encodeHeader_append pt mt sq tk _ _)

/-- `payloadSize` wraps at 16 bits (R121 c). -/
theorem declaredSize_assemble : declaredSize (assemble pt mt sq tk P) = P.length % 2 ^ 16 := by
  rw [← declaredSize_eq_psize, headerAt_assemble, wireHeader, toNat_reduce16, BitVec.toNat_ofNat]
  exact Nat.mod_mod_of_dvd _ (by decide)

theorem numberAt_assemble_trailer :
    numberAt (assemble pt mt sq tk P) (P.length + 15) 4 = (crc32 (frameBody pt mt sq tk P)).toNat := by
  have htrailer : memRead (assemble pt mt sq tk P) (P.length + 15) 4 = be32 (crc32 (frameBody pt mt sq tk P)) := by
    rw [memRead, assemble_eq, List.drop_left' (frameBody_length pt mt sq tk P)]; rfl
  rw [← unbe32_memRead (by simp), htrailer, unbe32_be32]

end Assemble

section Fits16

variable (pt mt : Byte) (sq tk : U32) {P : Bytes} (hsize : P.length ≤ 65535)
include hsize

theorem declaredSize_assemble_of_le : declaredSize (assemble pt mt sq tk P) = P.length := by
  rw [declaredSize_assemble, Nat.mod_eq_of_lt (by omega)]

/-- A composed frame passes the tests as long as `payloadSize` holds its payload's length. -/
theorem frameVerdict_assemble : frameVerdict (assemble pt mt sq tk P) = .ok := by
  rw [frameVerdict_eq_ok_iff, declaredSize_assemble_of_le pt mt sq tk hsize, assemble_length]
  refine ⟨headerVerdict_assemble pt mt sq tk P, Nat.add_comm _ _, ?_⟩
  rw [Nat.add_sub_assoc (by decide), take_assemble, numberAt_assemble_trailer]

theorem payloadAt_assemble : payloadAt (assemble pt mt sq tk P) = P := by
  rw [payloadAt, declaredSize_assemble_of_le pt mt sq tk hsize, assemble_eq, frameBody, List.append_assoc,
    List.drop_left' (encodeHeader_length _ _ _ _ _), List.take_left' rfl]

end Fits16

/-- Settles O37: the composed frame passes the tests, and what stands in it is what was put in. -/
theorem frameRoundTrip : Obligations.FrameRoundTrip := by
  intro pt mt sq tk P s hsize hfits
  refine ⟨_, assemble pt mt sq tk P, exec_frmAsm_fits pt mt sq tk hfits, rfl, ?_⟩
  rw [exec_frmParse_accepts (by simpa using hfits) (frameVerdict_assemble pt mt sq tk hsize), headerAt_assemble,
    payloadAt_assemble pt mt sq tk hsize, reduce16_eq_ofNat, reduce16_eq_ofNat, BitVec.toNat_ofNat,
    Nat.mod_eq_of_lt (by omega)]

/-- An accepted frame is composed of its header's fields and its payload: the tests have fixed the rest of the header, the
length and the trailer. -/
theorem assemble_of_frameVerdict_ok {b : Bytes} (hok : frameVerdict b = .ok) :
    assemble (headerAt b).ptype (headerAt b).mtype (zext32 (headerAt b).seq) (headerAt b).tick (payloadAt b) = b := by
  obtain ⟨hheader, hlen, hchecksum⟩ := frameVerdict_eq_ok_iff.mp hok
  have hdecode : decodeHeader b = .ok (headerAt b) := by rw [decodeHeader_eq_headerVerdict, if_pos hheader]
  have hsize : BitVec.ofNat 32 (payloadAt b).length = zext32 (headerAt b).psize := by
    rw [zext32_eq_ofNat, declaredSize_eq_psize, payloadAt, List.length_take, List.length_drop,
      Nat.min_eq_left (by omega)]
  have hbody : frameBody (headerAt b).ptype (headerAt b).mtype (zext32 (headerAt b).seq) (headerAt b).tick
      (payloadAt b) = b.take (b.length - 4) := by
    rw [frameBody, hsize, encodeHeader_of_decodeHeader_ok hdecode, payloadAt, ← List.take_add]
    congr 1
    omega
  have htrailer : be32 (crc32 (b.take (b.length - 4))) = b.drop (b.length - 4) := by
    have hread : memRead b (b.length - 4) 4 = b.drop (b.length - 4) :=
      List.take_of_length_le (by rw [List.length_drop]; omega)
    have hword : crc32 (b.take (b.length - 4)) = unbe32 (memRead b (b.length - 4) 4) := by
      rw [BitVec.toNat_eq, unbe32_memRead (by omega), hchecksum]
    rw [hword, be32_unbe32 (memRead_length (by omega)), hread]
  rw [assemble_eq, hbody, htrailer, List.take_append_drop]

/-- Settles O38: an accepted datagram is the frame composed of what is read in it. -/
theorem frameRoundTripConverse : Obligations.FrameRoundTripConverse := by
  intro B s t h P ht hresp
  obtain ⟨hfits, hresponse⟩ := exec_frmParse_next ht hresp
  have hok : frameVerdict B = .ok := by rw [← parseResponse_status, ← hresponse]
  rw [parseResponse_of_ok hok] at hresponse
  cases hresponse
  have hframe := assemble_of_frameVerdict_ok hok
  have hlen := congrArg List.length hframe
  rw [assemble_length] at hlen
  rw [← zext32_eq_ofNat, exec_frmAsm_fits _ _ _ _ (by omega), hframe]

/-- Settles O5: the header's octets are `encodeHeader`'s, the trailer's those of the CRC of what stands before them. -/
theorem frmAsmComposesTheFrame : Obligations.FrmAsmComposesTheFrame := by
  intro pt mt sq tk P s hfits
  have hsize : (BitVec.ofNat 32 P.length).toNat % 2 ^ 16 = P.length % 2 ^ 16 := by
    rw [BitVec.toNat_ofNat]
    exact Nat.mod_mod_of_dvd _ (by decide)
  refine ⟨assemble pt mt sq tk P, exec_frmAsm_fits pt mt sq tk hfits, assemble_length pt mt sq tk P, ?_⟩
  rw [take_assemble, assemble_eq, bytesToNats_append, bytesToNats_be32, frameBody, bytesToNats_append,
    bytesToNats_encodeHeader, hsize]

/-- Settles O6: the statement's tests are those of the verdict, in the same order. -/
theorem frmParseValidatesThenSplits : Obligations.FrmParseValidatesThenSplits := by
  intro B s hfits
  have hsize : 15 + declaredSize B + 4 = 19 + declaredSize B := by omega
  rw [hsize]
  split_ifs with hlen hmagic hversion hshort hlong hchecksum
  · exact exec_frmParse_rejects hfits (frameVerdict_of_headerVerdict (headerVerdict_of_short hlen) (by decide)) (by decide)
  · have hheader := headerVerdict_of_magic_ne (not_lt.mp hlen) hmagic
    exact exec_frmParse_rejects hfits (frameVerdict_of_headerVerdict hheader (by decide)) (by decide)
  · have hheader := headerVerdict_of_version_ne (not_lt.mp hlen) (not_not.mp hmagic) hversion
    exact exec_frmParse_rejects hfits (frameVerdict_of_headerVerdict hheader (by decide)) (by decide)
  all_goals have hheader := headerVerdict_eq_ok_iff.mpr ⟨not_lt.mp hlen, not_not.mp hmagic, not_not.mp hversion⟩
  · exact exec_frmParse_rejects hfits (frameVerdict_of_short hheader hshort) (by decide)
  · exact exec_frmParse_rejects hfits (frameVerdict_of_long hheader (by omega)) (by decide)
  · have hverdict := frameVerdict_of_checksum_ne hheader (not_not.mp hlong) (Ne.symm hchecksum)
    exact exec_frmParse_rejects hfits hverdict (by decide)
  · have hverdict := frameVerdict_eq_ok_iff.mpr ⟨hheader, not_not.mp hlong, (not_not.mp hchecksum).symm⟩
    exact exec_frmParse_accepts hfits hverdict

/-- Settles O7: the rule's example is evaluated, the rest is `FRM.ASM` of an empty payload. -/
theorem frmPongIsTheEmptyServerPing : Obligations.FrmPongIsTheEmptyServerPing := by
  refine ⟨fun sq tk s hfits => ?_, by decide +kernel⟩
  have hasm : exec (.frmAsm 0x02 0x04 sq tk []) s = _ := exec_frmAsm_fits 0x02 0x04 sq tk (P := []) (by simpa using hfits)
  refine ⟨pong sq tk, exec_frmPong_fits sq tk hfits, (exec_frmPong_fits sq tk hfits).trans hasm.symm,
    pong_length sq tk, ?_⟩
  have hheader : (pong sq tk).take 15 = encodeHeader 0x02 0x04 sq tk 0 ++ [] := take_assemble 0x02 0x04 sq tk []
  rw [hheader, List.append_nil, bytesToNats_encodeHeader]
  rfl

/-- Settles O41: the declared size is the payload's length modulo 2^16, so the frame is longer than it declares. -/
theorem overlongPayloadsCannotBeParsed : Obligations.OverlongPayloadsCannotBeParsed := by
  intro pt mt sq tk P s hlong hfits
  have hverdict : frameVerdict (assemble pt mt sq tk P) = .payloadSizeMismatch :=
    frameVerdict_of_long (headerVerdict_assemble pt mt sq tk P) (by rw [declaredSize_assemble, assemble_length]; omega)
  refine ⟨_, assemble pt mt sq tk P, exec_frmAsm_fits pt mt sq tk hfits, rfl, ?_⟩
  exact exec_frmParse_rejects (by simpa using hfits) hverdict (by decide)

/-! #### Frames that differ from a valid one (R125, R126) -/

/-- Runs of bytes stand for one number exactly when they are the same bytes. -/
theorem numberAt_eq_iff {b c : Bytes} {start n : Nat} :
    numberAt b start n = numberAt c start n ↔ ∀ i < n, b.getD (start + i) 0 = c.getD (start + i) 0 := by
  induction n with
  | zero => simp [numberAt]
  | succ n ih =>
    rw [Nat.forall_lt_succ_right, ← ih, BitVec.toNat_eq, numberAt, numberAt]
    omega

theorem numberAt_append {b : Bytes} (x : Bytes) {start n : Nat} (h : start + n ≤ b.length) :
    numberAt (b ++ x) start n = numberAt b start n :=
  numberAt_eq_iff.mpr fun i hi => List.getD_append b x 0 (start + i) (by omega)

/-- The header's verdict and the declared size are read in the first 15 bytes. -/
theorem header_append {b : Bytes} (x : Bytes) (hlen : 15 ≤ b.length) :
    headerVerdict (b ++ x) = headerVerdict b ∧ declaredSize (b ++ x) = declaredSize b := by
  have hlen' : 15 ≤ (b ++ x).length := by rw [List.length_append]; omega
  refine ⟨?_, numberAt_append x (by omega)⟩
  rw [headerVerdict, headerVerdict, if_neg hlen.not_gt, if_neg hlen'.not_gt, numberAt_append x (by omega),
    numberAt_append x (by omega)]

theorem frameVerdict_append {b x : Bytes} (hok : frameVerdict b = .ok) (hx : x ≠ []) :
    frameVerdict (b ++ x) = .payloadSizeMismatch := by
  obtain ⟨hheader, hlen, -⟩ := frameVerdict_eq_ok_iff.mp hok
  obtain ⟨hheader', hsize'⟩ := header_append x (b := b) (by omega)
  have hpos := List.length_pos_of_ne_nil hx
  refine frameVerdict_of_long (hheader'.trans hheader) ?_
  rw [hsize', List.length_append]
  omega

/-- Cut inside the header the frame is too short for one, cut after it too short for its declared size. -/
theorem frameVerdict_take {b : Bytes} {n : Nat} (hok : frameVerdict b = .ok) (hn : n < b.length) :
    frameVerdict (b.take n) = .tooShort := by
  obtain ⟨hheader, hlen, -⟩ := frameVerdict_eq_ok_iff.mp hok
  have hcut : (b.take n).length = n := List.length_take_of_le hn.le
  by_cases hshort : n < 15
  · exact frameVerdict_of_headerVerdict (headerVerdict_of_short (hcut.trans_lt hshort)) (by decide)
  · obtain ⟨hheader', hsize'⟩ := header_append (b.drop n) (b := b.take n) (by omega)
    rw [List.take_append_drop] at hheader' hsize'
    exact frameVerdict_of_short (hheader'.symm.trans hheader) (by omega)

/-- An `OK` response of `FRM.PARSE` is that to a frame that passes the tests. -/
theorem frameVerdict_of_exec_frmParse_ok {B : Bytes} {s t : State} {r : Response} (ht : exec (.frmParse B) s = .next t)
    (hr : t.resp = some r) (hok : r.status = .ok) : B.length ≤ s.bufMax ∧ frameVerdict B = .ok := by
  obtain ⟨hfits, rfl⟩ := exec_frmParse_next ht hr
  exact ⟨hfits, (parseResponse_status B).symm.trans hok⟩

/-- Settles O40: the cut or extended frame still has the header, which declares the length of the whole. -/
theorem cutAndExtendedFramesAreRejected : Obligations.CutAndExtendedFramesAreRejected := by
  intro F s t r ht hr hok
  obtain ⟨hfits, hverdict⟩ := frameVerdict_of_exec_frmParse_ok ht hr hok
  refine ⟨fun n hn => ?_, fun x hx hfits' => ?_⟩
  · exact exec_frmParse_rejects ((List.length_take_le' n F).trans hfits) (frameVerdict_take hverdict hn) (by decide)
  · exact exec_frmParse_rejects (by simpa using hfits') (frameVerdict_append hverdict hx) (by decide)

/-! #### Single-bit errors (R126) -/

@[simp] theorem flipBit_length (b : Bytes) (k : Nat) : (flipBit b k).length = b.length := List.length_modify _ _ _

theorem getD_flipBit {b : Bytes} {k : Nat} (hk : k / 8 < b.length) (j : Nat) :
    (flipBit b k).getD j 0 = if k / 8 = j then b.getD j 0 ^^^ BitVec.twoPow 8 (k % 8) else b.getD j 0 := by
  rw [flipBit, List.getD_eq_getElem?_getD, List.getElem?_modify, List.getD_eq_getElem?_getD]
  split_ifs with hj
  · subst hj
    simp [hk]
  · simp

theorem getD_flipBit_eq_iff {b : Bytes} {k : Nat} (hk : k / 8 < b.length) (j : Nat) :
    (flipBit b k).getD j 0 = b.getD j 0 ↔ k / 8 ≠ j := by
  rw [getD_flipBit hk]
  split_ifs with hj
  · simp [hj, twoPow_byte_ne_zero (Nat.mod_lt k (by decide))]
  · simp [hj]

/-- Inverting a bit changes the numbers its byte has a part in, and no others. -/
theorem numberAt_flipBit_eq_iff {b : Bytes} {k : Nat} (hk : k / 8 < b.length) (start n : Nat) :
    numberAt (flipBit b k) start n = numberAt b start n ↔ k / 8 < start ∨ start + n ≤ k / 8 := by
  simp only [numberAt_eq_iff, getD_flipBit_eq_iff hk]
  constructor
  · intro h
    by_contra hin
    exact h (k / 8 - start) (by omega) (by omega)
  · intro h i hi
    omega

theorem take_flipBit (b : Bytes) (k n : Nat) : (flipBit b k).take n = flipBit (b.take n) k := List.take_modify _ _ _ _

theorem flipBit_of_length_le {b : Bytes} {k : Nat} (h : b.length ≤ k / 8) : flipBit b k = b := List.modify_eq_self h

/-- A bit inverted twice is as it was. -/
theorem flipBit_flipBit (b : Bytes) (k : Nat) : flipBit (flipBit b k) k = b := by
  have hid : (fun x : Byte => x ^^^ BitVec.twoPow 8 (k % 8)) ∘ (fun x => x ^^^ BitVec.twoPow 8 (k % 8)) = id := by
    funext x
    simp
  rw [flipBit, flipBit, List.modify_modify_eq, hid, List.modify_id]

theorem bitAt_flipBit {b : Bytes} {k : Nat} (hk : k / 8 < b.length) : bitAt (flipBit b k) k = !bitAt b k := by
  have hbit : k % 8 < 8 := Nat.mod_lt k (by decide)
  rw [bitAt, getD_flipBit hk, if_pos rfl, BitVec.getLsbD_xor, BitVec.getLsbD_twoPow]
  simp [bitAt, hbit]

/-- Clearing a set bit makes the byte's number smaller. -/
theorem toNat_xor_twoPow_lt {x : Byte} {i : Nat} (h : x.getLsbD i = true) :
    (x ^^^ BitVec.twoPow 8 i).toNat < x.toNat := by
  have hi : i < 8 := BitVec.lt_of_getLsbD h
  refine Nat.lt_of_testBit i ?_ (by rwa [BitVec.testBit_toNat]) fun j hj => ?_
  · rw [BitVec.testBit_toNat, BitVec.getLsbD_xor, BitVec.getLsbD_twoPow, h]
    simp [hi]
  · rw [BitVec.testBit_toNat, BitVec.getLsbD_xor, BitVec.getLsbD_twoPow, BitVec.testBit_toNat]
    simp [hj.ne]

theorem declaredSize_eq (b : Bytes) : declaredSize b = (b.getD 13 0).toNat * 256 + (b.getD 14 0).toNat := by
  simp [declaredSize, numberAt]

/-- Clearing a bit of `payloadSize` makes the declared size smaller. -/
theorem declaredSize_flipBit_lt {b : Bytes} {k : Nat} (hk : k / 8 < b.length) (hplace : k / 8 = 13 ∨ k / 8 = 14)
    (hset : bitAt b k = true) : declaredSize (flipBit b k) < declaredSize b := by
  have hbyte : ((flipBit b k).getD (k / 8) 0).toNat < (b.getD (k / 8) 0).toNat := by
    rw [getD_flipBit hk, if_pos rfl]
    exact toNat_xor_twoPow_lt hset
  rw [declaredSize_eq, declaredSize_eq]
  obtain hj | hj := hplace
  · have hlow : (flipBit b k).getD 14 0 = b.getD 14 0 := (getD_flipBit_eq_iff hk 14).mpr (by omega)
    rw [hj] at hbyte
    rw [hlow]
    omega
  · have hhigh : (flipBit b k).getD 13 0 = b.getD 13 0 := (getD_flipBit_eq_iff hk 13).mpr (by omega)
    rw [hj] at hbyte
    rw [hhigh]
    omega

/-- Setting a bit of `payloadSize` makes it larger. -/
theorem lt_declaredSize_flipBit {b : Bytes} {k : Nat} (hk : k / 8 < b.length) (hplace : k / 8 = 13 ∨ k / 8 = 14)
    (hclear : bitAt b k = false) : declaredSize b < declaredSize (flipBit b k) := by
  have hset : bitAt (flipBit b k) k = true := by rw [bitAt_flipBit hk, hclear]; rfl
  have hlt := declaredSize_flipBit_lt (by simpa using hk) hplace hset
  rwa [flipBit_flipBit] at hlt

/-- A trailer that was the CRC of what precedes it no longer is, whether the inverted bit is in the one or in the other. -/
theorem checksum_flipBit_ne {b : Bytes} {k : Nat} (hlen : 4 ≤ b.length) (hk : k / 8 < b.length)
    (h : numberAt b (b.length - 4) 4 = (crc32 (b.take (b.length - 4))).toNat) :
    numberAt (flipBit b k) (b.length - 4) 4 ≠ (crc32 ((flipBit b k).take (b.length - 4))).toNat := by
  have hcut : (b.take (b.length - 4)).length = b.length - 4 := List.length_take_of_le (Nat.sub_le _ _)
  rw [take_flipBit]
  by_cases hbody : k / 8 < b.length - 4
  · have hcrc : crc32 (flipBit (b.take (b.length - 4)) k) ≠ crc32 (b.take (b.length - 4)) :=
      crcDetectsEverySingleBitError.1 _ k (by omega)
    rw [(numberAt_flipBit_eq_iff hk _ _).mpr (.inl hbody), h]
    exact fun heq => hcrc (BitVec.eq_of_toNat_eq heq).symm
  · rw [flipBit_of_length_le (hcut.trans_le (not_lt.mp hbody)), ← h, ne_eq, numberAt_flipBit_eq_iff hk]
    omega

theorem frameVerdict_flipBit {b : Bytes} {k : Nat} (hok : frameVerdict b = .ok) (hk : k / 8 < b.length) :
    frameVerdict (flipBit b k) = flipVerdict b k := by
  obtain ⟨hheader, hlen, hchecksum⟩ := frameVerdict_eq_ok_iff.mp hok
  obtain ⟨hlen15, hmagic, hversion⟩ := headerVerdict_eq_ok_iff.mp hheader
  have hlen15' : 15 ≤ (flipBit b k).length := by rwa [flipBit_length]
  have hsame := numberAt_flipBit_eq_iff hk
  rw [flipVerdict]
  split_ifs with hinMagic hinVersion hinSize hset
  · have hmagic' : numberAt (flipBit b k) 0 4 ≠ 0xA35FC81D := fun h => by
      have hplace := (hsame 0 4).mp (h.trans hmagic.symm)
      omega
    exact frameVerdict_of_headerVerdict (headerVerdict_of_magic_ne hlen15' hmagic') (by decide)
  all_goals have hmagic' : numberAt (flipBit b k) 0 4 = 0xA35FC81D := by rw [(hsame 0 4).mpr (by omega), hmagic]
  · have hversion' : numberAt (flipBit b k) 4 1 ≠ 1 := fun h => by
      have hplace := (hsame 4 1).mp (h.trans hversion.symm)
      omega
    exact frameVerdict_of_headerVerdict (headerVerdict_of_version_ne hlen15' hmagic' hversion') (by decide)
  all_goals
    have hversion' : numberAt (flipBit b k) 4 1 = 1 := by rw [(hsame 4 1).mpr (by omega), hversion]
    have hheader' := headerVerdict_eq_ok_iff.mpr ⟨hlen15', hmagic', hversion'⟩
  · have hsize' := declaredSize_flipBit_lt hk hinSize hset
    exact frameVerdict_of_long hheader' (by rw [flipBit_length]; omega)
  · have hsize' := lt_declaredSize_flipBit hk hinSize (Bool.not_eq_true _ ▸ hset)
    exact frameVerdict_of_short hheader' (by rw [flipBit_length]; omega)
  · have hsize' : declaredSize (flipBit b k) = declaredSize b := (hsame 13 2).mpr (by omega)
    have hchecksum' := checksum_flipBit_ne (by omega) hk hchecksum
    exact frameVerdict_of_checksum_ne hheader' (by rw [flipBit_length, hsize', hlen]) (by rwa [flipBit_length])

theorem flipVerdict_ne_ok (b : Bytes) (k : Nat) : flipVerdict b k ≠ .ok := by
  rw [flipVerdict]
  split_ifs <;> decide

/-- Settles O39: the bit's place decides which test of the verdict is the first to fail. -/
theorem everySingleBitFlipIsRejected : Obligations.EverySingleBitFlipIsRejected := by
  intro F s t r k ht hr hok hk
  obtain ⟨hfits, hverdict⟩ := frameVerdict_of_exec_frmParse_ok ht hr hok
  exact exec_frmParse_rejects (by simpa using hfits) (frameVerdict_flipBit hverdict (by omega)) (flipVerdict_ne_ok F k)

end Sys2Proof.Machine

/-! ### The Handshake State Machine (`45_handshake.md`) -/

namespace Sys2Proof.Machine
open Sys2Proof.Safety

/-! #### The step on a record (R136 to R140) -/

section Advances

variable (st : HsState) (hello join ready : Bool)

/-- A guarded advance changes the state and no flag. -/
theorem guarded_advance_mk (st' : HsState) (guard : Prop) [Decidable guard] :
    (if guard then ⟨st', hello, join, ready⟩ else ⟨st, hello, join, ready⟩ : Session) =
      ⟨if guard then st' else st, hello, join, ready⟩ := by
  split <;> rfl

theorem advanceHello_mk :
    advanceHello ⟨st, hello, join, ready⟩ =
      ⟨if st = .awaitingHello ∧ hello = true then .awaitingJoin else st, hello, join, ready⟩ :=
  guarded_advance_mk _ _ _ _ _ _

theorem advanceJoin_mk :
    advanceJoin ⟨st, hello, join, ready⟩ =
      ⟨if st = .awaitingJoin ∧ hello = true ∧ join = true then .awaitingReady else st, hello, join, ready⟩ :=
  guarded_advance_mk _ _ _ _ _ _

theorem advanceReady_mk :
    advanceReady ⟨st, hello, join, ready⟩ =
      ⟨if st = .awaitingReady ∧ hello = true ∧ join = true ∧ ready = true then .established else st,
        hello, join, ready⟩ :=
  guarded_advance_mk _ _ _ _ _ _

end Advances

/-- The cascade changes the state and no flag. -/
theorem advance_flags (r : Session) :
    (advance r).sawHello = r.sawHello ∧ (advance r).sawJoin = r.sawJoin ∧ (advance r).sawReady = r.sawReady := by
  obtain ⟨st, hello, join, ready⟩ := r
  rw [advance, advanceHello_mk, advanceJoin_mk, advanceReady_mk]
  exact ⟨rfl, rfl, rfl⟩

/-- Settles O28: the message marks its flag, and each advance keeps the flags and has the state of its guard. -/
theorem handshakeStepMarksThenCascades : Obligations.HandshakeStepMarksThenCascades := by
  intro r m
  rw [hsStep, markSeen_eq]
  generalize (r.sawHello || decide (m = 0x01)) = hello, (r.sawJoin || decide (m = 0x02)) = join,
    (r.sawReady || decide (m = 0x03)) = ready
  rw [advance, advanceHello_mk, advanceJoin_mk, advanceReady_mk]
  exact ⟨rfl, rfl, rfl, _, _, rfl, rfl, rfl⟩

/-- An advance made before further flags are set is one that the advance after them makes anyway. -/
theorem advance_of_state_advance (st : HsState) : ∀ hello join ready hello' join' ready' : Bool,
    advance ⟨(advance ⟨st, hello, join, ready⟩).state, hello || hello', join || join', ready || ready'⟩ =
      advance ⟨st, hello || hello', join || join', ready || ready'⟩ := by
  cases st <;> decide

/-- A message after an advance finds what it would have found without it. -/
theorem hsStep_advance (r : Session) (m : Byte) : hsStep (advance r) m = hsStep r m := by
  obtain ⟨hHello, hJoin, hReady⟩ := advance_flags r
  rw [hsStep, hsStep, markSeen_eq, markSeen_eq r, hHello, hJoin, hReady]
  exact advance_of_state_advance r.state r.sawHello r.sawJoin r.sawReady _ _ _

/-- Two messages amount to both flags and one advance. -/
theorem hsStep_hsStep (r : Session) (a b : Byte) : hsStep (hsStep r a) b = advance (markSeen (markSeen r a) b) :=
  hsStep_advance (markSeen r a) b

theorem markSeen_idem (r : Session) (m : Byte) : markSeen (markSeen r m) m = markSeen r m := by
  simp only [markSeen_eq, Bool.or_assoc, Bool.or_self]

theorem markSeen_comm (r : Session) (a b : Byte) : markSeen (markSeen r a) b = markSeen (markSeen r b) a := by
  simp only [markSeen_eq, Bool.or_right_comm]

/-- Settles O30: the flags are set idempotently and in any order, and the advance between two messages may wait. -/
theorem handshakeStepIsIdempotentAndCommutative : Obligations.HandshakeStepIsIdempotentAndCommutative := by
  intro r a b
  constructor
  · rw [hsStep_hsStep, markSeen_idem, hsStep]
  · rw [hsStep_hsStep, hsStep_hsStep, markSeen_comm]

/-! #### The reachable records (R28, R148) -/

theorem hsStep_recordOfFlags (hello join ready : Bool) (m : Byte) :
    hsStep (recordOfFlags hello join ready) m =
      recordOfFlags (hello || decide (m = 0x01)) (join || decide (m = 0x02)) (ready || decide (m = 0x03)) := by
  rw [hsStep, markSeen_eq]
  exact advance_of_more_flags hello join ready _ _ _

/-- Settles O29: the eight packed values are evaluated. -/
theorem transitionTableOfTheReachableRecords : Obligations.TransitionTableOfTheReachableRecords :=
  ⟨hsStep_recordOfFlags, by decide⟩

/-- A type outside the handshake finds nothing left to advance in a reachable record. -/
theorem hsStep_of_other_type {r : Session} {m : Byte} (hr : recordConsistent r = true)
    (hm : ¬(m = 0x01 ∨ m = 0x02 ∨ m = 0x03)) : hsStep r m = r := by
  obtain ⟨hHello, hJoin, hReady⟩ : m ≠ 0x01 ∧ m ≠ 0x02 ∧ m ≠ 0x03 := by simpa only [not_or] using hm
  rw [recordConsistent_iff.mp hr, hsStep_recordOfFlags, decide_eq_false hHello, decide_eq_false hJoin,
    decide_eq_false hReady, Bool.or_false, Bool.or_false, Bool.or_false]

/-- After a sequence of messages each flag says whether its type was among them. -/
theorem foldl_hsStep_recordOfFlags (ms : List Byte) (hello join ready : Bool) :
    ms.foldl hsStep (recordOfFlags hello join ready) =
      recordOfFlags (hello || decide (0x01 ∈ ms)) (join || decide (0x02 ∈ ms)) (ready || decide (0x03 ∈ ms)) := by
  induction ms generalizing hello join ready with
  | nil => simp
  | cons m ms ih =>
    rw [List.foldl_cons, hsStep_recordOfFlags, ih]
    simp only [List.mem_cons, Bool.decide_or, Bool.or_assoc, eq_comm]

theorem recordOfFlags_established_iff (hello join ready : Bool) :
    (recordOfFlags hello join ready).state = .established ↔ hello = true ∧ join = true ∧ ready = true := by
  revert hello join ready
  decide

/-! #### The commands (R136, R141 to R144, R146) -/

/-- A pong is answered wherever its 19 bytes fit `OBUF`. -/
theorem State.pongReply_fits {s : State} (hpong : 19 ≤ s.bufMax) (sl : Slot) (q u : U32) (h : Option Header) :
    s.pongReply sl q u h =
      .next (s.answer { sessionResponse sl.hs with kind := some .pong, hdr := h, obuf := pong q u } []) := by
  rw [State.pongReply, memWrite_empty, State.respond_fits (by simpa using hpong)]

section HsMsg

variable {sid : Sid} {m : Byte} {s : State} {sl : Slot} (hs : s.slot? sid = some sl)
include hs

/-- `HS.MSG` on an existing slot, its three arms. -/
theorem exec_hsMsg (m : Byte) (q u : U32) :
    exec (.hsMsg sid m q u) s =
      if m = 0x01 ∨ m = 0x02 ∨ m = 0x03 then s.handshakeStep sid sl m none
      else if m = 0x04 then s.pongReply sl q u none
      else s.respond { sessionResponse sl.hs with kind := some .nothing } [] :=
  State.withSlot_some hs _

theorem exec_hsMsg_handshake (hm : m = 0x01 ∨ m = 0x02 ∨ m = 0x03) (q u : U32) :
    exec (.hsMsg sid m q u) s = .next ((s.setSlot sid { sl with hs := hsStep sl.hs m }).answer
      { sessionResponse (hsStep sl.hs m) with kind := some .handshake } []) := by
  rw [exec_hsMsg hs, if_pos hm, State.handshakeStep_eq]
  rfl

theorem exec_hsMsg_ping (hpong : 19 ≤ s.bufMax) (q u : U32) :
    exec (.hsMsg sid 0x04 q u) s =
      .next (s.answer { sessionResponse sl.hs with kind := some .pong, obuf := pong q u } []) := by
  rw [exec_hsMsg hs, if_neg (by decide), if_pos rfl, State.pongReply_fits hpong]
  rfl

theorem exec_hsMsg_other (hm : ¬(m = 0x01 ∨ m = 0x02 ∨ m = 0x03)) (hping : m ≠ 0x04) (q u : U32) :
    exec (.hsMsg sid m q u) s = .next (s.answer { sessionResponse sl.hs with kind := some .nothing } []) := by
  rw [exec_hsMsg hs, if_neg hm, if_neg hping, State.respond_fits (Nat.zero_le _)]

/-- Whatever its type, `HS.MSG` leaves a reachable record stepped by it: where it writes nothing, the step changes
nothing. -/
theorem exec_hsMsg_steps (hr : recordConsistent sl.hs = true) (hpong : 19 ≤ s.bufMax) (m : Byte) (q u : U32) :
    ∃ t, exec (.hsMsg sid m q u) s = .next t ∧ t.bufMax = s.bufMax ∧
      t.slot? sid = some { sl with hs := hsStep sl.hs m } := by
  by_cases hm : m = 0x01 ∨ m = 0x02 ∨ m = 0x03
  · exact ⟨_, exec_hsMsg_handshake hs hm q u, rfl, State.setSlot_slot?_self _ hs⟩
  · rw [hsStep_of_other_type hr hm]
    by_cases hping : m = 0x04
    · subst hping
      exact ⟨_, exec_hsMsg_ping hs hpong q u, rfl, hs⟩
    · exact ⟨_, exec_hsMsg_other hs hm hping q u, rfl, hs⟩

end HsMsg

theorem execAll_cons_of_next {i : Instr} {is : List Instr} {s t : State} (ht : exec i s = .next t) :
    execAll (i :: is) s = execAll is t := by
  rw [execAll, ht]

/-- A sequence of `HS.MSG` on one slot steps its record by each type in turn. -/
theorem execAll_hsMsg {sid : Sid} (ms : List (Byte × U32 × U32)) {s : State} {sl : Slot} (hs : s.slot? sid = some sl)
    (hr : recordConsistent sl.hs = true) (hpong : 19 ≤ s.bufMax) :
    ∃ t, execAll (ms.map fun m => .hsMsg sid m.1 m.2.1 m.2.2) s = .next t ∧
      t.slot? sid = some { sl with hs := (ms.map Prod.fst).foldl hsStep sl.hs } := by
  induction ms generalizing s sl with
  | nil => exact ⟨s, rfl, hs⟩
  | cons m ms ih =>
    obtain ⟨t, ht, hbuf, hslot⟩ := exec_hsMsg_steps hs hr hpong m.1 m.2.1 m.2.2
    obtain ⟨u, hu, hslot'⟩ := ih hslot (recordConsistent_hsStep hr m.1) (hbuf ▸ hpong)
    exact ⟨u, by rw [List.map_cons, execAll_cons_of_next ht, hu], hslot'⟩

/-- Settles O31: from the fresh record the flags are the types that arrived, and the state is the function of the
flags. -/
theorem establishedExactlyWhenAllThreeArrived : Obligations.EstablishedExactlyWhenAllThreeArrived := by
  intro sid s sl ms hs hfresh hpong
  have hrecord : sl.hs = recordOfFlags false false false := hfresh
  have hr : recordConsistent sl.hs = true := hrecord ▸ recordConsistent_recordOfFlags false false false
  obtain ⟨t, ht, hslot⟩ := execAll_hsMsg ms hs hr hpong
  refine ⟨t, _, ht, hslot, ?_⟩
  rw [hrecord, foldl_hsStep_recordOfFlags, recordOfFlags_established_iff]
  simp only [Bool.false_or, decide_eq_true_iff]

/-- Settles O8: the three arms. -/
theorem hsMsgTransitions : Obligations.HsMsgTransitions := by
  intro sid m q u s sl hs hpong
  split_ifs with hm hping
  · exact exec_hsMsg_handshake hs hm q u
  · subst hping
    exact exec_hsMsg_ping hs hpong q u
  · exact exec_hsMsg_other hs hm hping q u

/-- A session command without a buffer on an absent slot (`30_encoding.md` R76). -/
theorem exec_of_absent_slot {i : Instr} {sid : Sid} {s : State} (hi : instrSlot i = some sid)
    (hfits : instrFits s.config i = true) (habsent : s.slots.length ≤ sid.toNat) :
    exec i s = .next (s.answer (errorResponse .badSession) []) :=
  exec_of_slot?_eq_none hi hfits ((s.slot?_eq_none sid).mpr habsent)

/-- Settles O9: the response is a function of the slot's record. -/
theorem hsQryReportsTheRecord : Obligations.HsQryReportsTheRecord := by
  refine fun sid s => ⟨exec_of_absent_slot rfl rfl, fun sl hs => ?_⟩
  rw [exec_hsQry, hs]
  rfl

theorem exec_hsRst_of_slot {sid : Sid} {s : State} {sl : Slot} (hs : s.slot? sid = some sl) :
    exec (.hsRst sid) s =
      .next ((s.setSlot sid { sl with hs := Session.fresh }).answer (sessionResponse Session.fresh) []) := by
  change s.withSlot sid _ = _
  rw [State.withSlot_some hs]
  exact State.respond_fits (Nat.zero_le _) []

/-- The report of a fresh record (R144). -/
theorem sessionResponse_fresh :
    sessionResponse Session.fresh = { status := .ok, hsreg := some 0, est := some false } := by
  decide

/-- Settles O10: the fresh record is the one the statement writes out. -/
theorem hsRstFreshensTheRecordOnly : Obligations.HsRstFreshensTheRecordOnly := by
  refine fun sid s => ⟨exec_of_absent_slot rfl rfl, fun sl hs => ?_⟩
  rw [exec_hsRst_of_slot hs, sessionResponse_fresh]
  rfl

theorem exec_hsTouch_of_slot {sid : Sid} {s : State} {sl : Slot} (hs : s.slot? sid = some sl) :
    exec (.hsTouch sid) s = .next (s.answer { status := .ok } [⟨sid⟩]) := by
  change s.withSlot sid _ = _
  rw [State.withSlot_some hs]
  exact State.respond_fits (Nat.zero_le _) _

/-! #### Activity events (R146) -/

/-- A next state of this outcome has no event. -/
def Silent (o : Host.Outcome State Fault Refusal) : Prop := ∀ t, o = .next t → t.events = []

section Silence

variable {s : State}

theorem Silent.raise (e : Status) : Silent (s.raise e) := by
  rintro t ⟨⟩
  rfl

theorem Silent.respond {r : Response} : Silent (s.respond r []) := by
  intro t ht
  obtain ⟨-, rfl⟩ := State.respond_next ht
  rfl

theorem Silent.withInput {n : Nat} {k : Host.Outcome State Fault Refusal} (hk : Silent k) : Silent (s.withInput n k) :=
  fun t ht => hk t (State.withInput_next ht).2

theorem Silent.withSlot {sid : Sid} {k : Slot → Host.Outcome State Fault Refusal} (hk : ∀ sl, Silent (k sl)) :
    Silent (s.withSlot sid k) := by
  intro t ht
  obtain ⟨-, rfl⟩ | ⟨sl, -, ht'⟩ := State.withSlot_next ht
  · rfl
  · exact hk sl t ht'

theorem Silent.withMessage {sid : Sid} {p : Bytes} {k : Slot → Host.Outcome State Fault Refusal}
    (hk : ∀ sl, Silent (k sl)) : Silent (s.withMessage sid p k) :=
  .withInput (.withSlot hk)

end Silence

theorem execHdrDec_silent (B : Bytes) (s : State) : Silent (execHdrDec B s) := by
  refine .withInput ?_
  split
  · exact .raise _
  · exact .respond

theorem execFrmParse_silent (B : Bytes) (s : State) : Silent (execFrmParse B s) := by
  refine .withInput ?_
  split
  · exact .raise _
  · exact .respond

theorem execHsMsg_silent (sid : Sid) (m : Byte) (q u : U32) (s : State) : Silent (execHsMsg sid m q u s) := by
  refine .withSlot fun sl => ?_
  split
  · exact .respond
  · split
    · exact .respond
    · exact .respond

theorem execRxDgram_silent (sid : Sid) (B : Bytes) (s : State) : Silent (execRxDgram sid B s) := by
  refine .withInput (.withSlot fun sl => ?_)
  split
  · exact .raise _
  · split
    · exact .respond
    · split
      · exact .respond
      · split
        · exact .respond
        · exact .raise _

/-- Every instruction answers without an event, but for `HS.TOUCH`. -/
theorem exec_silent {i : Instr} (hi : ∀ sid, i ≠ .hsTouch sid) (s : State) : Silent (exec i s) := by
  cases i with
  | msgClientHello sid f P => exact .withMessage fun _ => .respond
  | msgClientJoinRequest sid f P => exact .withMessage fun _ => .respond
  | msgClientReady sid f P => exact .withMessage fun _ => .respond
  | msgClientPing sid f P => exact .withMessage fun _ => .respond
  | msgClientInput sid f P => exact .withMessage fun _ => .respond
  | msgSnapshot sid f P => exact .withMessage fun _ => .respond
  | msgLevelInit sid f P => exact .withMessage fun _ => .respond
  | crcGen B => exact .withInput .respond
  | crcChk B e => exact .withInput .respond
  | hdrEnc pt mt sq tk ps => exact .respond
  | hdrDec B => exact execHdrDec_silent B s
  | frmAsm pt mt sq tk P => exact .withInput .respond
  | frmParse B => exact execFrmParse_silent B s
  | frmPong sq tk => exact .respond
  | hsMsg sid m q u => exact execHsMsg_silent sid m q u s
  | hsQry sid => exact .withSlot fun _ => .respond
  | hsRst sid => exact .withSlot fun _ => .respond
  | hsTouch sid => exact absurd rfl (hi sid)
  | trkNext sid => exact .withSlot fun _ => .respond
  | trkRst sid => exact .withSlot fun _ => .respond
  | rxDgram sid B => exact execRxDgram_silent sid B s

/-- Settles O11: `HS.TOUCH` by its two cases; an instruction that is not one is silent. -/
theorem hsTouchAloneEmitsActivity : Obligations.HsTouchAloneEmitsActivity := by
  refine ⟨fun sid s => ⟨exec_of_absent_slot rfl rfl, fun sl hs => exec_hsTouch_of_slot hs⟩, fun i s t ht hevents => ?_⟩
  by_contra! hi
  exact hevents (exec_silent hi s t ht)

/-! #### The handshake messages and the ping (R137 to R139, R141; log 4) -/

/-- A handshake message on an existing slot, its frame accepted. -/
theorem State.withMessage_handshakeStep_fits {s : State} {sid : Sid} {sl : Slot} {P : Bytes}
    (hs : s.slot? sid = some sl) (hfits : P.length + 19 ≤ s.bufMax) (m : MsgType) (f : MsgFields) :
    s.withMessage sid P (fun sl => s.handshakeStep sid sl (msgCode m) (some (messageHeader m f))) =
      .next ((s.setSlot sid { sl with hs := hsStep sl.hs (msgCode m) }).answer
        { sessionResponse (hsStep sl.hs (msgCode m)) with
          kind := some .handshake, hdr := some (wireHeader f.ptype (msgCode m) f.seq f.tick f.psize) } []) := by
  rw [State.withMessage_fits hs hfits, State.handshakeStep_eq, messageHeader_eq_wireHeader]

/-- Settles O15: the three rows are one handshake step, which differs only in the registered code. -/
theorem handshakeMessagesStepTheirSlot : Obligations.HandshakeMessagesStepTheirSlot := by
  intro sid f P s sl hs hfits
  have hstep := State.withMessage_handshakeStep_fits hs hfits
  exact ⟨hstep .clientHello f, hstep .clientJoinRequest f, hstep .clientReady f⟩

/-- A pong's octets: the header with no payload, then the CRC of the header (`44_framer.md` R128). -/
theorem bytesToNats_pong (q u : U32) :
    bytesToNats (pong q u) =
      headerOctets 2 4 (q.toNat % 2 ^ 16) u.toNat 0 ++ octets 4 (crc32 ((pong q u).take 15)).toNat := by
  have hbody : (pong q u).take 15 = encodeHeader 0x02 0x04 q u 0 ++ [] := take_assemble 0x02 0x04 q u []
  have hpong : pong q u = (pong q u).take 15 ++ be32 (crc32 ((pong q u).take 15)) := by rw [hbody]; rfl
  have hheader : bytesToNats ((pong q u).take 15) = headerOctets 2 4 (q.toNat % 2 ^ 16) u.toNat 0 := by
    rw [hbody, List.append_nil, bytesToNats_encodeHeader, Nat.mod_eq_of_lt u.isLt]
    rfl
  calc bytesToNats (pong q u)
      = bytesToNats ((pong q u).take 15 ++ be32 (crc32 ((pong q u).take 15))) := congrArg bytesToNats hpong
    _ = _ := by rw [bytesToNats_append, hheader, bytesToNats_be32]

theorem exec_msgClientPing_fits {s : State} {sid : Sid} {sl : Slot} {P : Bytes} (hs : s.slot? sid = some sl)
    (hfits : P.length + 19 ≤ s.bufMax) (f : MsgFields) :
    exec (.msgClientPing sid f P) s =
      .next (s.answer
        { sessionResponse sl.hs with
          kind := some .pong, hdr := some (wireHeader f.ptype 0x04 f.seq f.tick f.psize),
          obuf := pong (zext32 f.seq) f.tick } []) := by
  change s.withMessage sid P _ = _
  rw [State.withMessage_fits hs hfits, State.pongReply_fits (by omega)]
  rfl

/-- Settles O16: the ping's 16-bit sequence passes through the pong's 32-bit operand unchanged. -/
theorem pingMessageIsAnsweredByItsPong : Obligations.PingMessageIsAnsweredByItsPong := by
  intro sid f P s sl hs hfits
  have hseq : (zext32 f.seq).toNat % 2 ^ 16 = f.seq.toNat := by rw [← toNat_reduce16, reduce16_zext32]
  refine ⟨pong (zext32 f.seq) f.tick, exec_msgClientPing_fits hs hfits f, ?_, pong_length _ _, ?_⟩
  · rw [zext32_eq_ofNat]
  · rw [bytesToNats_pong, hseq]

end Sys2Proof.Machine

/-! ### The sequence and tick tracker (`46_tracker_rx.md` section 1) -/

namespace Sys2Proof.Machine
open Sys2Proof.Safety

theorem exec_trkNext_of_slot {sid : Sid} {s : State} {sl : Slot} (hs : s.slot? sid = some sl) :
    exec (.trkNext sid) s =
      .next ((s.setSlot sid ⟨sl.hs, sl.seq + 1, sl.tick + 1⟩).answer
        { status := .ok, seq := some sl.seq, tick := some sl.tick } []) := by
  change s.withSlot sid _ = _
  rw [State.withSlot_some hs]
  exact State.respond_fits (Nat.zero_le _) []

theorem exec_trkRst_of_slot {sid : Sid} {s : State} {sl : Slot} (hs : s.slot? sid = some sl) :
    exec (.trkRst sid) s = .next ((s.setSlot sid ⟨sl.hs, 0, 0⟩).answer { status := .ok } []) := by
  change s.withSlot sid _ = _
  rw [State.withSlot_some hs]
  exact State.respond_fits (Nat.zero_le _) []

/-- Settles O12: each counter is a bit vector, whose addition wraps at the field's width. -/
theorem trkNextStampsThenIncrements : Obligations.TrkNextStampsThenIncrements :=
  fun _ _ => ⟨exec_of_absent_slot rfl rfl, fun sl hs =>
    ⟨sl.seq + 1, sl.tick + 1, exec_trkNext_of_slot hs, BitVec.toNat_add sl.seq 1, BitVec.toNat_add sl.tick 1⟩⟩

/-- Settles O13: of the slot written back, only the two counters are new. -/
theorem trkRstZeroesTheCountersOnly : Obligations.TrkRstZeroesTheCountersOnly :=
  fun _ _ => ⟨exec_of_absent_slot rfl rfl, fun _ hs => exec_trkRst_of_slot hs⟩

/-- What one call of `TRK.NEXT` leaves for the next. -/
theorem exec_trkNext_advances {sid : Sid} {s : State} {sl : Slot} (hs : s.slot? sid = some sl) :
    ∃ t, exec (.trkNext sid) s = .next t ∧ t.slot? sid = some ⟨sl.hs, sl.seq + 1, sl.tick + 1⟩ :=
  ⟨_, exec_trkNext_of_slot hs, State.setSlot_slot?_self _ hs⟩

/-- Calls of `TRK.NEXT` in a row add their number to both counters of the slot. -/
theorem execAll_replicate_trkNext {sid : Sid} (n : Nat) {s : State} {sl : Slot} (hs : s.slot? sid = some sl) :
    ∃ t, execAll (List.replicate n (.trkNext sid)) s = .next t ∧
      t.slot? sid = some ⟨sl.hs, sl.seq + BitVec.ofNat 16 n, sl.tick + BitVec.ofNat 32 n⟩ := by
  induction n generalizing s sl with
  | zero => exact ⟨s, rfl, by rw [hs, BitVec.add_zero, BitVec.add_zero]⟩
  | succ n ih =>
    obtain ⟨t, ht, hslot⟩ := exec_trkNext_advances hs
    obtain ⟨u, hu, hslot'⟩ := ih hslot
    refine ⟨u, by rw [List.replicate_succ, execAll_cons_of_next ht, hu], ?_⟩
    rw [hslot', BitVec.add_assoc, BitVec.add_assoc, Nat.add_comm n 1, BitVec.ofNat_add, BitVec.ofNat_add]
    rfl

/-- Settles O32: the number of calls reaches each counter modulo its width. -/
theorem trackerCountsItsCalls : Obligations.TrackerCountsItsCalls := by
  intro sid n s sl hs
  obtain ⟨t, ht, hslot⟩ := execAll_replicate_trkNext n hs
  refine ⟨t, _, ht, hslot, rfl, ?_, ?_⟩
  · rw [BitVec.toNat_add, BitVec.toNat_ofNat, Nat.add_mod_mod]
  · rw [BitVec.toNat_add, BitVec.toNat_ofNat, Nat.add_mod_mod]

end Sys2Proof.Machine

/-! ### The inbound path (`46_tracker_rx.md` section 2) -/

namespace Sys2Proof.Machine
open Sys2Proof.Safety

/-! #### The frame's header, in natural numbers and as a header vector (`30_encoding.md` R60, R67) -/

theorem numberAt_lt (b : Bytes) (start n : Nat) : numberAt b start n < 256 ^ n := by
  induction n with
  | zero => exact Nat.one_pos
  | succ n ih =>
    have hbyte := (b.getD (start + n) 0).isLt
    rw [numberAt, Nat.pow_succ]
    omega

/-- The later bytes of a run are the lower digits of its number. -/
theorem numberAt_add (b : Bytes) (start m n : Nat) :
    numberAt b start (m + n) = numberAt b start m * 256 ^ n + numberAt b (start + m) n := by
  induction n with
  | zero => simp [numberAt]
  | succ n ih =>
    rw [← Nat.add_assoc, numberAt, ih, numberAt, Nat.add_assoc start, Nat.pow_succ, Nat.add_mul, Nat.mul_assoc,
      Nat.add_assoc]

/-- A run of bytes inside a longer one is a group of the longer one's digits. -/
theorem numberAt_middle (b : Bytes) (start m n k : Nat) :
    numberAt b start (m + n + k) / 256 ^ k % 256 ^ n = numberAt b (start + m) n := by
  have hpos : 0 < 256 ^ k := Nat.pow_pos (by decide)
  rw [numberAt_add b start (m + n) k, Nat.mul_comm, Nat.mul_add_div hpos, Nat.div_eq_of_lt (numberAt_lt _ _ _),
    Nat.add_zero, numberAt_add b start m n, Nat.mul_add_mod', Nat.mod_eq_of_lt (numberAt_lt _ _ _)]

/-- A field of the header vector is the run of the frame's bytes that R60 gives it: `n` bytes, `m` before and `k` after
them. -/
theorem extract_headerVectorAt (b : Bytes) (m n k : Nat) (hsplit : m + n + k = 15) :
    (headerVectorAt b).extractLsb' (8 * k) (8 * n) = BitVec.ofNat (8 * n) (numberAt b m n) := by
  have hbits (j : Nat) : 2 ^ (8 * j) = 256 ^ j := Nat.pow_mul 2 8 j
  have hvector : (headerVectorAt b).toNat = numberAt b 0 15 := Nat.mod_eq_of_lt (numberAt_lt b 0 15)
  have hrun := numberAt_middle b 0 m n k
  rw [hsplit, Nat.zero_add] at hrun
  apply BitVec.eq_of_toNat_eq
  rw [BitVec.extractLsb'_toNat, hvector, Nat.shiftRight_eq_div_pow, BitVec.toNat_ofNat, hbits, hbits, hrun,
    Nat.mod_eq_of_lt (numberAt_lt b m n)]

theorem extract_headerVectorAt_byte (b : Bytes) (m k : Nat) (hsplit : m + 1 + k = 15) :
    (headerVectorAt b).extractLsb' (8 * k) 8 = b.getD m 0 := by
  have hbyte : (headerVectorAt b).extractLsb' (8 * k) 8 = BitVec.ofNat 8 (numberAt b m 1) :=
    extract_headerVectorAt b m 1 k hsplit
  rw [hbyte, numberAt_one, BitVec.ofNat_toNat, BitVec.setWidth_eq]
  rfl

/-- The header at the frame's offsets has the fields of its header vector. -/
theorem headerAt_eq_fields (b : Bytes) :
    headerAt b =
      { magic := magicField (headerVectorAt b), version := versionField (headerVectorAt b),
        ptype := packetTypeField (headerVectorAt b), mtype := messageTypeField (headerVectorAt b),
        seq := sequenceIdField (headerVectorAt b), tick := tickIdField (headerVectorAt b),
        psize := payloadSizeField (headerVectorAt b) } := by
  have hmagic : magicField (headerVectorAt b) = BitVec.ofNat 32 (numberAt b 0 4) := extract_headerVectorAt b 0 4 11 rfl
  have hversion : versionField (headerVectorAt b) = b.getD 4 0 := extract_headerVectorAt_byte b 4 10 rfl
  have hptype : packetTypeField (headerVectorAt b) = b.getD 5 0 := extract_headerVectorAt_byte b 5 9 rfl
  have hmtype : messageTypeField (headerVectorAt b) = b.getD 6 0 := extract_headerVectorAt_byte b 6 8 rfl
  have hseq : sequenceIdField (headerVectorAt b) = BitVec.ofNat 16 (numberAt b 7 2) := extract_headerVectorAt b 7 2 6 rfl
  have htick : tickIdField (headerVectorAt b) = BitVec.ofNat 32 (numberAt b 9 4) := extract_headerVectorAt b 9 4 2 rfl
  have hpsize : payloadSizeField (headerVectorAt b) = BitVec.ofNat 16 (declaredSize b) :=
    extract_headerVectorAt b 13 2 0 rfl
  rw [hmagic, hversion, hptype, hmtype, hseq, htick, hpsize]
  rfl

/-- A frame whose header vector selects a row has that row's header (R67). -/
theorem messageHeader_messageFields {b : Bytes} {m : MsgType} (hmagic : magicField (headerVectorAt b) = magicWord)
    (hversion : versionField (headerVectorAt b) = versionByte)
    (htype : messageTypeField (headerVectorAt b) = msgCode m) :
    messageHeader m (messageFields (headerVectorAt b)) = headerAt b := by
  rw [headerAt_eq_fields, hmagic, hversion, htype]
  rfl

theorem zext32_headerAt_seq (b : Bytes) : zext32 (headerAt b).seq = BitVec.ofNat 32 (numberAt b 7 2) := by
  have hseq : (headerAt b).seq.toNat = numberAt b 7 2 := Nat.mod_eq_of_lt (numberAt_lt b 7 2)
  rw [zext32_eq_ofNat, hseq]

/-- A valid frame is its header, its payload and its trailer (R61). -/
theorem length_of_frameVerdict_ok {b : Bytes} (hok : frameVerdict b = .ok) : b.length = (payloadAt b).length + 19 := by
  obtain ⟨-, hlen, -⟩ := frameVerdict_eq_ok_iff.mp hok
  rw [payloadAt, List.length_take, List.length_drop]
  omega

/-! #### The dispatch on the message type (R160) -/

/-- What R160 does on an existing slot with a frame that passes the tests, of header `h` and payload `p`. -/
def State.dispatch (s : State) (sid : Sid) (h : Header) (p : Bytes) (sl : Slot) : Host.Outcome State Fault Refusal :=
  if h.mtype = 0x01 ∨ h.mtype = 0x02 ∨ h.mtype = 0x03 then s.handshakeStep sid sl h.mtype (some h)
  else if h.mtype = 0x04 then s.pongReply sl (zext32 h.seq) h.tick (some h)
  else if h.mtype = 0x05 ∨ h.mtype = 0x14 ∨ h.mtype = 0x30 then s.deliver sl h p
  else s.raise .unknownMessageType

section Dispatch

variable {s : State} {sid : Sid} {sl : Slot}

/-- `RX.DGRAM` on a valid frame, its slot existing or not. -/
theorem exec_rxDgram_of_valid (s : State) (sid : Sid) {B : Bytes} (hok : frameVerdict B = .ok) :
    exec (.rxDgram sid B) s = s.withInput B.length (s.withSlot sid (s.dispatch sid (headerAt B) (payloadAt B))) := by
  change s.withInput B.length (s.withSlot sid _) = _
  rw [parse_eq, if_pos hok]
  rfl

theorem exec_rxDgram_accepts {B : Bytes} (hs : s.slot? sid = some sl) (hfits : B.length ≤ s.bufMax)
    (hok : frameVerdict B = .ok) : exec (.rxDgram sid B) s = s.dispatch sid (headerAt B) (payloadAt B) sl := by
  rw [exec_rxDgram_of_valid s sid hok, State.withInput_fits hfits, State.withSlot_some hs]

theorem exec_rxDgram_rejects {B : Bytes} (hs : s.slot? sid = some sl) (hfits : B.length ≤ s.bufMax)
    (hbad : frameVerdict B ≠ .ok) :
    exec (.rxDgram sid B) s = .next (s.answer (errorResponse (frameVerdict B)) []) := by
  change s.withInput B.length (s.withSlot sid _) = _
  rw [State.withInput_fits hfits, State.withSlot_some hs, parse_eq, if_neg hbad]
  rfl

/-- A message row does what the dispatch does with the row's header (log 4). -/
theorem exec_messageInstr (m : MsgType) (sid : Sid) (f : MsgFields) (P : Bytes) (s : State) :
    exec (messageInstr m sid f P) s = s.withMessage sid P (s.dispatch sid (messageHeader m f) P) := by
  cases m <;> rfl

variable {h : Header} {p : Bytes}

theorem State.dispatch_handshake (hm : h.mtype = 0x01 ∨ h.mtype = 0x02 ∨ h.mtype = 0x03) :
    s.dispatch sid h p sl = .next ((s.setSlot sid { sl with hs := hsStep sl.hs h.mtype }).answer
      { sessionResponse (hsStep sl.hs h.mtype) with kind := some .handshake, hdr := some h } []) := by
  rw [State.dispatch, if_pos hm, State.handshakeStep_eq]

theorem State.dispatch_ping (hm : h.mtype = 0x04) (hpong : 19 ≤ s.bufMax) :
    s.dispatch sid h p sl = .next (s.answer
      { sessionResponse sl.hs with kind := some .pong, hdr := some h, obuf := pong (zext32 h.seq) h.tick } []) := by
  rw [State.dispatch, if_neg (by rw [hm]; decide), if_pos hm, State.pongReply_fits hpong]

theorem State.dispatch_deliver (hm : h.mtype = 0x05 ∨ h.mtype = 0x14 ∨ h.mtype = 0x30) (hp : p.length ≤ s.bufMax) :
    s.dispatch sid h p sl = .next (s.answer
      { sessionResponse sl.hs with kind := some .deliver, hdr := some h, obuf := p } []) := by
  obtain ⟨hhandshake, hping⟩ : ¬(h.mtype = 0x01 ∨ h.mtype = 0x02 ∨ h.mtype = 0x03) ∧ h.mtype ≠ 0x04 := by
    rcases hm with hm | hm | hm <;> rw [hm] <;> decide
  rw [State.dispatch, if_neg hhandshake, if_neg hping, if_pos hm, State.deliver_fits hp]

theorem State.dispatch_unknown (hhandshake : ¬(h.mtype = 0x01 ∨ h.mtype = 0x02 ∨ h.mtype = 0x03))
    (hping : h.mtype ≠ 0x04) (hdeliver : ¬(h.mtype = 0x05 ∨ h.mtype = 0x14 ∨ h.mtype = 0x30)) :
    s.dispatch sid h p sl = .next (s.answer (errorResponse .unknownMessageType) []) := by
  rw [State.dispatch, if_neg hhandshake, if_neg hping, if_neg hdeliver, State.raise_eq]

end Dispatch

/-- Settles O14: the frame's verdict, then the arms of the dispatch in the order of the statement's tests. -/
theorem rxDgramValidatesThenDispatches : Obligations.RxDgramValidatesThenDispatches := by
  intro sid B s hfits hpong
  refine ⟨exec_of_absent_slot rfl (ibufFits_iff.mpr hfits), fun sl hs => ?_⟩
  by_cases hok : frameVerdict B = .ok
  · rw [if_neg (not_not.mpr hok), exec_rxDgram_accepts hs hfits hok, ← zext32_headerAt_seq]
    simp only [List.mem_cons, List.not_mem_nil, or_false]
    split_ifs with hhandshake hping hdeliver
    · exact State.dispatch_handshake hhandshake
    · exact State.dispatch_ping hping hpong
    · exact State.dispatch_deliver hdeliver ((payloadAt_length_le B).trans hfits)
    · exact State.dispatch_unknown hhandshake hping hdeliver
  · rw [if_pos hok, exec_rxDgram_rejects hs hfits hok]

/-- Settles O18: the row is the dispatch on the frame's header, and the frame is 19 bytes longer than the payload. -/
theorem rxDgramRunsTheMessageOfItsFrame : Obligations.RxDgramRunsTheMessageOfItsFrame := by
  intro sid B s i hfits hok hd
  obtain ⟨m, hmagic, hversion, -, htype, rfl⟩ := decode_message_ok_iff.mp hd
  have hrow (s : State) :
      exec (.rxDgram sid B) s = exec (messageInstr m sid (messageFields (headerVectorAt B)) (payloadAt B)) s := by
    rw [exec_rxDgram_of_valid s sid hok, exec_messageInstr, messageHeader_messageFields hmagic hversion htype,
      length_of_frameVerdict_ok hok]
    rfl
  refine ⟨hrow s, fun a rest hscript => ?_⟩
  rw [stepRunsTheDecodedCommand s _ rest _ hscript hfits Selects.rxDgram.decode_eq, hrow]

/-! #### One command after another (R162, R163) -/

/-- No instruction reads the response or the events of the one before it, and each that answers replaces both (log 3). -/
theorem exec_answer (i : Instr) (s : State) (r : Response) (ev : List Activity) :
    exec i (s.answer r ev) = exec i s := by
  cases i <;> rfl

/-- On a handshake type and on a ping the dispatch answers as `HS.MSG` with the header's fields does, and adds the
header. -/
theorem State.dispatch_of_hsMsg {s : State} {sid : Sid} {sl : Slot} (h : Header) (p : Bytes)
    (hs : s.slot? sid = some sl) (hpong : 19 ≤ s.bufMax)
    (hm : (h.mtype = 0x01 ∨ h.mtype = 0x02 ∨ h.mtype = 0x03) ∨ h.mtype = 0x04) :
    ∃ u r, exec (.hsMsg sid h.mtype (zext32 h.seq) h.tick) s = .next u ∧ u.resp = some r ∧
      s.dispatch sid h p sl = .next (u.answer { r with hdr := some h } []) := by
  obtain hhandshake | hping := hm
  · exact ⟨_, _, exec_hsMsg_handshake hs hhandshake _ _, rfl, State.dispatch_handshake hhandshake⟩
  · have hmsg := exec_hsMsg_ping hs hpong (zext32 h.seq) h.tick
    rw [← hping] at hmsg
    exact ⟨_, _, hmsg, rfl, State.dispatch_ping hping hpong⟩

/-- Settles O42: `FRM.PARSE` leaves `HS.MSG` the state it found, and returns the header the dispatch looks at. -/
theorem rxDgramIsParseThenTransition : Obligations.RxDgramIsParseThenTransition := by
  intro sid B s sl hs hfits hok hm
  have hpong : 19 ≤ s.bufMax := by have hlen := length_of_frameVerdict_ok hok; omega
  obtain ⟨u, r, hmsg, hr, hdispatch⟩ :=
    State.dispatch_of_hsMsg (headerAt B) (payloadAt B) hs hpong (by simpa [or_assoc] using hm)
  rw [zext32_eq_ofNat] at hmsg
  rw [← exec_rxDgram_accepts hs hfits hok] at hdispatch
  exact ⟨_, u, _, headerAt B, _, r, _, exec_frmParse_accepts hfits hok, rfl, rfl, (exec_answer _ s _ _).trans hmsg, hr,
    hdispatch, rfl, rfl, rfl⟩

/-- An instruction that brings a handshake message to an existing slot and is accepted makes the handshake step there. -/
theorem BringsHandshake.next {i : Instr} {sid : Sid} {m : Byte} {s t : State} {sl : Slot}
    (hbrings : BringsHandshake i sid m) (hs : s.slot? sid = some sl) (ht : exec i s = .next t) :
    ∃ h, s.handshakeStep sid sl m h = .next t := by
  cases hbrings with
  | hsMsg q u hm =>
    rw [exec_hsMsg hs, if_pos (by simpa using hm)] at ht
    exact ⟨_, ht⟩
  | rxDgram hvalid hm =>
    rw [exec_rxDgram_accepts hs (State.withInput_next ht).1 hvalid, State.dispatch, if_pos (by simpa using hm)] at ht
    exact ⟨_, ht⟩
  | msgClientHello _ f P => exact ⟨_, (State.withSlot_some hs _).symm.trans (State.withInput_next ht).2⟩
  | msgClientJoinRequest _ f P => exact ⟨_, (State.withSlot_some hs _).symm.trans (State.withInput_next ht).2⟩
  | msgClientReady _ f P => exact ⟨_, (State.withSlot_some hs _).symm.trans (State.withInput_next ht).2⟩

/-- An instruction that writes its slot answers `OK` (`60_exceptions.md` R176). -/
theorem SlotWrite.answers_ok {i : Instr} {sid : Sid} {s t : State} {sl sl' : Slot} {r : Response}
    (hw : SlotWrite i sid sl sl') (hs : s.slot? sid = some sl) (ht : exec i s = .next t) (hr : t.resp = some r) :
    r.status = .ok := by
  cases hw with
  | handshake _ hbrings =>
    obtain ⟨h, hstep⟩ := hbrings.next hs ht
    rw [State.handshakeStep_eq] at hstep
    cases hstep; cases hr; rfl
  | hsRst =>
    rw [exec_hsRst_of_slot hs] at ht
    cases ht; cases hr; rfl
  | trkNext =>
    rw [exec_trkNext_of_slot hs] at ht
    cases ht; cases hr; rfl
  | trkRst =>
    rw [exec_trkRst_of_slot hs] at ht
    cases ht; cases hr; rfl

/-- A command that answered an error changed nothing but the response port (R176). -/
theorem eq_answer_of_error {i : Instr} {s t : State} {r : Response} (ht : exec i s = .next t) (hr : t.resp = some r)
    (herror : r.status ≠ .ok) : ∃ ev, t = s.answer r ev := by
  cases exec_allowed i s t ht with
  | answer ev hlegal =>
    cases hr
    exact ⟨ev, rfl⟩
  | write ev hs hw hlegal => exact absurd (hw.answers_ok hs ht hr) herror

/-- Settles O21: the failed command left only its response, which no instruction reads. -/
theorem failedCommandIsAsIfNeverIssued : Obligations.FailedCommandIsAsIfNeverIssued := by
  intro i j s t r ht hr herror
  obtain ⟨ev, rfl⟩ := eq_answer_of_error ht hr herror
  exact exec_answer j s r ev

end Sys2Proof.Machine


/-! ### Errors and independent slots (`60_exceptions.md`) -/

namespace Sys2Proof.Machine
open Sys2Proof.Safety

/-! #### What an error leaves (R173, R176) -/

/-- The errors a command of the block can raise: those of R170 less the string codec's two (R173) and `BadCommand`, which
is the answer to a word that is no command (`30_encoding.md` R75). -/
def commandErrors : List Status :=
  [.tooShort, .badMagic, .unsupportedVersion, .payloadSizeMismatch, .checksumMismatch, .unknownMessageType, .badSession]

/-- A next state of this outcome of `s` answers `OK`, or is `s` with one of `commandErrors` raised. -/
def OkOrRaised (s : State) (o : Host.Outcome State Fault Refusal) : Prop :=
  ∀ t, o = .next t →
    (∃ r, t.resp = some r ∧ r.status = .ok) ∨ ∃ e ∈ commandErrors, t = s.answer (errorResponse e) []

section Errors

variable {s : State}

theorem OkOrRaised.raise {e : Status} (he : e ∈ commandErrors) : OkOrRaised s (s.raise e) := by
  rintro t ⟨⟩
  exact .inr ⟨e, he, rfl⟩

/-- The state that answers need not be `s`: a write of the slot may come before. -/
theorem OkOrRaised.respond {u : State} {r : Response} {ev : List Activity} (hok : r.status = .ok) :
    OkOrRaised s (u.respond r ev) := by
  intro t ht
  obtain ⟨-, rfl⟩ := State.respond_next ht
  exact .inl ⟨r, rfl, hok⟩

theorem OkOrRaised.withInput {n : Nat} {k : Host.Outcome State Fault Refusal} (hk : OkOrRaised s k) :
    OkOrRaised s (s.withInput n k) :=
  fun t ht => hk t (State.withInput_next ht).2

theorem OkOrRaised.withSlot {sid : Sid} {k : Slot → Host.Outcome State Fault Refusal} (hk : ∀ sl, OkOrRaised s (k sl)) :
    OkOrRaised s (s.withSlot sid k) := by
  intro t ht
  obtain ⟨-, rfl⟩ | ⟨sl, -, ht'⟩ := State.withSlot_next ht
  · exact .inr ⟨.badSession, by decide, rfl⟩
  · exact hk sl t ht'

theorem OkOrRaised.withMessage {sid : Sid} {p : Bytes} {k : Slot → Host.Outcome State Fault Refusal}
    (hk : ∀ sl, OkOrRaised s (k sl)) : OkOrRaised s (s.withMessage sid p k) :=
  .withInput (.withSlot hk)

end Errors

/-- The verdicts of the header's tests (R171). -/
theorem headerVerdict_mem_commandErrors {b : Bytes} (h : headerVerdict b ≠ .ok) : headerVerdict b ∈ commandErrors := by
  rw [headerVerdict] at h ⊢
  split_ifs at h ⊢
  · decide
  · decide
  · decide
  · exact absurd rfl h

/-- The verdicts of the frame's tests (R171, R172). -/
theorem frameVerdict_mem_commandErrors {b : Bytes} (h : frameVerdict b ≠ .ok) : frameVerdict b ∈ commandErrors := by
  rw [frameVerdict] at h ⊢
  split_ifs at h ⊢ with hheader
  · exact headerVerdict_mem_commandErrors hheader
  · decide
  · decide
  · decide
  · exact absurd rfl h

theorem mem_commandErrors_of_decodeHeader {b : Bytes} {e : Status} (h : decodeHeader b = .error e) :
    e ∈ commandErrors := by
  rw [decodeHeader_eq_headerVerdict] at h
  split at h
  · cases h
  next hbad => cases h; exact headerVerdict_mem_commandErrors hbad

theorem mem_commandErrors_of_parse {b : Bytes} {e : Status} (h : parse b = .error e) : e ∈ commandErrors := by
  rw [parse_eq] at h
  split at h
  · cases h
  next hbad => cases h; exact frameVerdict_mem_commandErrors hbad

theorem execHdrDec_okOrRaised (B : Bytes) (s : State) : OkOrRaised s (execHdrDec B s) := by
  refine .withInput ?_
  split
  next e he => exact .raise (mem_commandErrors_of_decodeHeader he)
  · exact .respond rfl

theorem execFrmParse_okOrRaised (B : Bytes) (s : State) : OkOrRaised s (execFrmParse B s) := by
  refine .withInput ?_
  split
  next e he => exact .raise (mem_commandErrors_of_parse he)
  · exact .respond rfl

theorem execHsMsg_okOrRaised (sid : Sid) (m : Byte) (q u : U32) (s : State) : OkOrRaised s (execHsMsg sid m q u s) := by
  refine .withSlot fun sl => ?_
  split
  · exact .respond rfl
  · split
    · exact .respond rfl
    · exact .respond rfl

theorem execRxDgram_okOrRaised (sid : Sid) (B : Bytes) (s : State) : OkOrRaised s (execRxDgram sid B s) := by
  refine .withInput (.withSlot fun sl => ?_)
  split
  next e he => exact .raise (mem_commandErrors_of_parse he)
  · split
    · exact .respond rfl
    · split
      · exact .respond rfl
      · split
        · exact .respond rfl
        · exact .raise (by decide)

/-- Every instruction that answers answers `OK`, or raises an error before it has written anything. -/
theorem exec_okOrRaised (i : Instr) (s : State) : OkOrRaised s (exec i s) := by
  cases i with
  | msgClientHello sid f P => exact .withMessage fun _ => .respond rfl
  | msgClientJoinRequest sid f P => exact .withMessage fun _ => .respond rfl
  | msgClientReady sid f P => exact .withMessage fun _ => .respond rfl
  | msgClientPing sid f P => exact .withMessage fun _ => .respond rfl
  | msgClientInput sid f P => exact .withMessage fun _ => .respond rfl
  | msgSnapshot sid f P => exact .withMessage fun _ => .respond rfl
  | msgLevelInit sid f P => exact .withMessage fun _ => .respond rfl
  | crcGen B => exact .withInput (.respond rfl)
  | crcChk B e => exact .withInput (.respond rfl)
  | hdrEnc pt mt sq tk ps => exact .respond rfl
  | hdrDec B => exact execHdrDec_okOrRaised B s
  | frmAsm pt mt sq tk P => exact .withInput (.respond rfl)
  | frmParse B => exact execFrmParse_okOrRaised B s
  | frmPong sq tk => exact .respond rfl
  | hsMsg sid m q u => exact execHsMsg_okOrRaised sid m q u s
  | hsQry sid => exact .withSlot fun _ => .respond rfl
  | hsRst sid => exact .withSlot fun _ => .respond rfl
  | hsTouch sid => exact .withSlot fun _ => .respond rfl
  | trkNext sid => exact .withSlot fun _ => .respond rfl
  | trkRst sid => exact .withSlot fun _ => .respond rfl
  | rxDgram sid B => exact execRxDgram_okOrRaised sid B s

/-- Settles O20: an answer that is not `OK` is an error raised, and the three codes are none of `commandErrors`. -/
theorem errorsLeaveNoTrace : Obligations.ErrorsLeaveNoTrace := by
  intro i s t r ht hr herror
  obtain ⟨r', hr', hok⟩ | ⟨e, he, rfl⟩ := exec_okOrRaised i s t ht
  · cases hr'.symm.trans hr
    exact absurd hok herror
  · cases hr
    exact ⟨rfl, ne_of_mem_of_not_mem he (by decide), ne_of_mem_of_not_mem he (by decide),
      ne_of_mem_of_not_mem he (by decide)⟩

/-! #### The slots an instruction is not about (R186) -/

@[simp] theorem State.writeOwn_slots_length (s : State) (own : Option Sid) (new : Option Slot) :
    (s.writeOwn own new).slots.length = s.slots.length := by
  cases own <;> cases new <;> simp

@[simp] theorem State.writeOwn_script (s : State) (own : Option Sid) (new : Option Slot) :
    (s.writeOwn own new).script = s.script := by
  cases own <;> cases new <;> simp

/-- A slot just written holds what was written, and is still absent where it was absent. -/
theorem State.setSlot_slot?_same (s : State) (sid : Sid) (sl : Slot) :
    (s.setSlot sid sl).slot? sid = (s.slot? sid).map fun _ => sl :=
  List.getElem?_set_self'

/-- What the own slot holds after a write depends on nothing but what it held. -/
theorem State.writeOwn_slot?_congr {s s' : State} {sid : Sid} (h : s'.slot? sid = s.slot? sid) (new : Option Slot) :
    (s'.writeOwn (some sid) new).slot? sid = (s.writeOwn (some sid) new).slot? sid := by
  cases new with
  | none => exact h
  | some sl => simp only [State.writeOwn_some, State.setSlot_slot?_same, h]

/-- Settles O24: an instruction's effect is one write of its own slot, if it has one, and an answer. -/
theorem otherSlotsAreUntouched : Obligations.OtherSlotsAreUntouched := by
  intro i s t ht
  obtain ⟨new, r, ev, -, rfl, -⟩ := exec_sameEffect i (.refl _ s) t ht
  exact ⟨by simp, by simp, by simp, fun k hk => s.writeOwn_slot?_ne new hk⟩

/-- Settles O25: two states that agree on `BUF_MAX` and the own slot undergo the same write and give the same answer. -/
theorem otherSlotsAreUnobservable : Obligations.OtherSlotsAreUnobservable := by
  intro i sid s s' t hi hbuf hslot ht
  have hagree : AgreeOn (instrSlot i) s s' := ⟨hbuf, fun k hk => by cases hi.symm.trans hk; exact hslot⟩
  obtain ⟨new, r, ev, -, rfl, ht'⟩ := exec_sameEffect i hagree t ht
  rw [hi] at ht' ⊢
  exact ⟨_, ht', rfl, rfl, State.writeOwn_slot?_congr hslot new⟩

/-! #### The codes (R170) and the packed record (`10_state.md` R25) -/

/-- The number two bit vectors side by side stand for. -/
theorem toNat_append_eq {m n : Nat} (hi : BitVec m) (lo : BitVec n) :
    (hi ++ lo).toNat = hi.toNat * 2 ^ n + lo.toNat := by
  rw [BitVec.toNat_append, ← Nat.shiftLeft_add_eq_or_of_lt lo.isLt, Nat.shiftLeft_eq]

/-- Settles O55: the codes are read off their tables, and each flag stands above the bits to its right. -/
theorem statusCodesAndPackedView : Obligations.StatusCodesAndPackedView := by
  refine ⟨by decide, by decide, fun r => ?_⟩
  simp only [packSession, toNat_append_eq, BitVec.toNat_ofBool]
  omega

end Sys2Proof.Machine

/-! ### Reset (`70_reset_and_hazards.md` section 1) -/

namespace Sys2Proof.Machine
open Sys2Proof.Safety

/-! #### The `RESET` event (R195) -/

theorem step_of_script_reset {s : State} {rest : List HostInput} (hscript : s.script = .reset :: rest) :
    step s = .next ({ s with script := rest } : State).applyReset := by
  rw [step, runInput, hscript]

/-- A fresh slot with the reset values of `10_state.md` R33 written out. -/
theorem slot_fresh_eq : Slot.fresh = ⟨⟨.awaitingHello, false, false, false⟩, 0, 0⟩ := rfl

/-- Settles O48: the entry taken off the script, the step is `applyReset`, whose slots are as many fresh ones as before. -/
theorem resetFreshensEverySlot : Obligations.ResetFreshensEverySlot := by
  intro s rest hscript
  have hslots : ({ s with script := rest } : State).applyReset.slots = List.replicate s.slots.length Slot.fresh :=
    State.applyReset_slots _
  rw [step_of_script_reset hscript, ← slot_fresh_eq, ← hslots]
  rfl

/-! #### The resets of one slot after another (R197) -/

/-- The two per-slot resets of slot `k`. -/
def slotResets (k : Nat) : List Instr := [.hsRst (BitVec.ofNat 8 k), .trkRst (BitVec.ofNat 8 k)]

theorem execAll_append_of_next {is : List Instr} (js : List Instr) {s t : State} (ht : execAll is s = .next t) :
    execAll (is ++ js) s = execAll js t := by
  induction is generalizing s with
  | nil => cases ht; rfl
  | cons i is ih =>
    rw [execAll] at ht
    split at ht
    next u hu => rw [List.cons_append, execAll_cons_of_next hu, ih ht]
    · cases ht
    · cases ht

theorem State.setSlot_setSlot (s : State) (sid : Sid) (sl sl' : Slot) :
    (s.setSlot sid sl).setSlot sid sl' = s.setSlot sid sl' := by
  simp only [State.setSlot, List.set_set]

/-- `HS.RST` writes the record and `TRK.RST` the counters, so both together write the whole slot. -/
theorem execAll_hsRst_trkRst {sid : Sid} {s : State} {sl : Slot} (hs : s.slot? sid = some sl) :
    execAll [.hsRst sid, .trkRst sid] s = .next ((s.setSlot sid Slot.fresh).answer { status := .ok } []) := by
  have hs' : ((s.setSlot sid { sl with hs := Session.fresh }).answer (sessionResponse Session.fresh) []).slot? sid =
      some { sl with hs := Session.fresh } :=
    State.setSlot_slot?_self _ hs
  rw [execAll_cons_of_next (exec_hsRst_of_slot hs), execAll_cons_of_next (exec_trkRst_of_slot hs'),
    State.setSlot_answer, State.answer_answer, State.setSlot_setSlot]
  rfl

theorem execAll_slotResets {s : State} {k : Nat} (hk : k < s.slots.length) (hsid : k < 256) :
    ∃ t, execAll (slotResets k) s = .next t ∧ t.slots = s.slots.set k Slot.fresh := by
  have hnat : (BitVec.ofNat 8 k).toNat = k := Nat.mod_eq_of_lt hsid
  have hslot : s.slot? (BitVec.ofNat 8 k) = some s.slots[k] := by
    rw [State.slot?, hnat, List.getElem?_eq_getElem hk]
  exact ⟨_, execAll_hsRst_trkRst hslot, by rw [State.answer_slots, State.setSlot_slots, hnat]⟩

theorem replicate_append_drop_set {α : Type} (a : α) {l : List α} {n : Nat} (hn : n < l.length) :
    (List.replicate n a ++ l.drop n).set n a = List.replicate (n + 1) a ++ l.drop (n + 1) := by
  rw [List.set_append_right _ _ (by rw [List.length_replicate]), List.length_replicate, Nat.sub_self,
    List.drop_eq_getElem_cons hn, List.set_cons_zero, List.replicate_succ', List.append_assoc, List.singleton_append]

/-- After the resets of the first `n` slots those are fresh, and the others are as they were. -/
theorem execAll_slotResets_range {s : State} (hsids : s.slots.length ≤ 256) (n : Nat) (hn : n ≤ s.slots.length) :
    ∃ t, execAll ((List.range n).flatMap slotResets) s = .next t ∧
      t.slots = List.replicate n Slot.fresh ++ s.slots.drop n := by
  induction n with
  | zero => exact ⟨s, rfl, rfl⟩
  | succ n ih =>
    obtain ⟨t, ht, hslots⟩ := ih (by omega)
    have hlength : t.slots.length = s.slots.length := by
      rw [hslots, List.length_append, List.length_replicate, List.length_drop]; omega
    obtain ⟨u, hu, hslots'⟩ := execAll_slotResets (s := t) (k := n) (by omega) (by omega)
    refine ⟨u, ?_, ?_⟩
    · rw [List.range_succ, List.flatMap_append, execAll_append_of_next _ ht, List.flatMap_singleton, hu]
    · rw [hslots', hslots, replicate_append_drop_set _ hn]

/-- Settles O44: once every slot has been reset none is left as it was, and 8 bits number up to 256 slots. -/
theorem perSlotResetsAmountToReset : Obligations.PerSlotResetsAmountToReset := by
  intro s hsids
  obtain ⟨t, ht, hslots⟩ := execAll_slotResets_range hsids s.slots.length le_rfl
  rw [List.drop_length, List.append_nil] at hslots
  exact ⟨t, ht, hslots, hslots.trans s.applyReset_slots.symm⟩

end Sys2Proof.Machine
